-- ==== Sys2Proof/Word.lean ====
section
/-! DEFINITION. The widths of the frame engine (spec/00_scope.md R9, spec/10_state.md). All values are unsigned. -/

namespace Sys2Proof

/-- A byte of the serial line, of the payload buffer or of the record image. -/
abbrev Byte := BitVec 8

/-- A 16-bit field: length, address and function code of a frame; id, magicNumber and dateCode of the record. -/
abbrev Half := BitVec 16

/-- A 4-bit field of the record (R32). -/
abbrev Nibble := BitVec 4

/-- A 20-bit length of the record (R33). -/
abbrev Len20 := BitVec 20

/-- Milliseconds in TIME_W = 32 bits (R24, R40; notes/assumptions/7.md). -/
abbrev Time := BitVec 32

end Sys2Proof
end

