-- ==== Sys2Proof/Config.lean ====
section
/-! DEFINITION. The constants the source fixes (spec/00_scope.md R5), the enumerator numbers (spec/10_state.md R32) and the
configuration record of one engine instance (R6). -/

namespace Sys2Proof

/-- First sync byte of every frame, both directions. -/
abbrev sync0 : Byte := 0xAA#8

/-- Second sync byte of every frame, both directions. -/
abbrev sync1 : Byte := 0xBB#8

/-- RX_OVERHEAD: subtracted from the received length field. -/
abbrev rxOverhead : Nat := 5

/-- TX_OVERHEAD: added to the payload length of a response. -/
abbrev txOverhead : Nat := 6

/-- PAYLOAD_CAP: bytes of the payload buffer. -/
abbrev payloadCap : Nat := 64

/-- RX_TIMEOUT in milliseconds. -/
abbrev rxTimeout : Nat := 2000

/-- ESC: inserted before a payload byte equal to 0xAA in a response. -/
abbrev escByte : Byte := 0x00#8

/-- STATUS_OK: the status byte of every response. -/
abbrev statusOk : Byte := 0x00#8

/-- IMAGE_LEN: bytes of the record image. -/
abbrev imageLen : Nat := 16

/-- PAGE_FIRST and PAGE_LAST: the page numbers of the record image. -/
abbrev pageFirst : Byte := 6#8
abbrev pageLast : Byte := 9#8

/-- PAGE_DATA: data bytes of a page, payload bytes 1 to 4. -/
abbrev pageData : Nat := 4

/-- CT_NORMAL and the other enumerator numbers: the spec's own choice (R32, decision D17; notes/assumptions/4.md). -/
abbrev ctNormal : Nibble := 0#4
abbrev ctRefillable : Nibble := 1#4
abbrev matPLA : Nibble := 0#4
abbrev matABS : Nibble := 1#4
abbrev matPVA : Nibble := 2#4

/-- One configuration record per engine instance (R6, R38): fixed for its life, read-only to the protocol (R37). -/
structure Config where
  slotId            : Half
  storeOffset       : Nat
  unlimitedFilament : Bool
  fcInitPort        : Half
  fcSetAntenna      : Half
  fcRequest         : Half
  fcAntiColl        : Half
  fcSelect          : Half
  fcHalt            : Half
  fcRead            : Half
  fcWrite           : Half
  magicDefault      : Half
  ptDefault         : Byte
  fltDefault        : Byte
  dateDefault       : Half
  xtDefault         : Byte
  deriving DecidableEq, Repr

/-- The eight function codes, in the order of the command table (R82). -/
def Config.codes (cfg : Config) : List Half :=
  [cfg.fcInitPort, cfg.fcSetAntenna, cfg.fcRequest, cfg.fcAntiColl, cfg.fcSelect, cfg.fcHalt, cfg.fcRead, cfg.fcWrite]

/-- The one constraint on the eight codes: pairwise distinct (R82, decision D9). -/
abbrev Config.Distinct (cfg : Config) : Prop := cfg.codes.Nodup

/-- PRESUMED, DESIGN CHOICE (notes/assumptions/2.md, 3.md): the configuration of `State.reset`. Its codes are the example
instantiation E0 (R86, general knowledge and not in the source); the rest is what the spec's example programs use. No rule
rests on it: every definition takes the configuration from the state. -/
def Config.example0 : Config where
  slotId            := 0x1234#16
  storeOffset       := 0
  unlimitedFilament := false
  fcInitPort        := 0x0101#16
  fcSetAntenna      := 0x010C#16
  fcRequest         := 0x0201#16
  fcAntiColl        := 0x0202#16
  fcSelect          := 0x0203#16
  fcHalt            := 0x0204#16
  fcRead            := 0x0208#16
  fcWrite           := 0x0213#16
  magicDefault      := 0#16
  ptDefault         := 0#8
  fltDefault        := 0#8
  dateDefault       := 0#16
  xtDefault         := 0#8

end Sys2Proof
end

