-- ==== Sys2Proof/Syntax.lean ====
section
/-! DEFINITION. The commands of the frame engine: one constructor per row of spec/opcode_table.json (R13, R82). -/

namespace Sys2Proof

/-- A command with the operands the spec reads from its frame. Every frame carries an address, which the response echoes
(R131). The payload of the seven non-write commands is no operand (R132). A writeData command reads `pl[0]` as the page and
`pl[1]` to `pl[4]` as data (R170). -/
inductive Instr where
  /-- INITPORT (R133). -/
  | initPort (address : Half)
  /-- SETANTENNA (R134). -/
  | setAntenna (address : Half)
  /-- REQUEST (R135). -/
  | request (address : Half)
  /-- ANTICOLL (R136). -/
  | antiColl (address : Half)
  /-- SELECT (R137). -/
  | select (address : Half)
  /-- HALT (R138). -/
  | halt (address : Half)
  /-- READDATA (R139). -/
  | readData (address : Half)
  /-- WRITEDATA (R140): the command before its page is told apart, whatever the page. The decoder answers it for a frame
  that carries no page byte (notes/assumptions/20.md). -/
  | writeData (address : Half) (page d1 d2 d3 d4 : Byte)
  /-- WRITEDATA.P6 (R171). -/
  | writeP6 (address : Half) (d1 d2 d3 d4 : Byte)
  /-- WRITEDATA.P7 (R172). -/
  | writeP7 (address : Half) (d1 d2 d3 d4 : Byte)
  /-- WRITEDATA.P8 (R173). -/
  | writeP8 (address : Half) (d1 d2 d3 d4 : Byte)
  /-- WRITEDATA.P9 (R174, R175). -/
  | writeP9 (address : Half) (d1 d2 d3 d4 : Byte)
  /-- WRITEDATA.other (R177): a page number outside 6..9. -/
  | writeOther (address : Half) (page : Byte)
  /-- UNKNOWN (R141): a function code equal to none of the eight. -/
  | unknown (address : Half) (functionCode : Half)
  deriving DecidableEq, Repr

/-- Why a byte sequence is no complete command frame: the illegal encodings of R83, and a sequence that ends early. -/
inductive DecodeError where
  /-- The first byte is not 0xAA (skipped by the receiver, R102). -/
  | badFirstSync
  /-- The second byte is not 0xBB (R83, R201). -/
  | badSecondSync
  /-- The length field is in 0..4 (R83, R202). -/
  | lengthUnderflow
  /-- The length field is in 70..65535 (R83, R203). -/
  | lengthOverCapacity
  /-- The bytes end before the frame does. -/
  | truncated
  deriving DecidableEq, Repr

end Sys2Proof
end

