-- ==== Sys2Proof/WellFormed.lean ====
section
/-! DEFINITION. Which terms of `Instr` stand for a command frame under a configuration (spec/30_encoding.md R82). -/

namespace Sys2Proof

/-- The page numbers that address the record image (spec/20_memory.md R52). -/
abbrev isPage (p : Byte) : Bool := decide (pageFirst ≤ p) && decide (p ≤ pageLast)

/-- `writeData` stands for a frame without a page byte, whose page and data therefore read 0 (R176); `writeOther` has a page
number outside 6..9 (R177); `unknown` has a code that is none of the eight (R141). -/
def Instr.wf (cfg : Config) : Instr → Bool
  | .initPort _ | .setAntenna _ | .request _ | .antiColl _ | .select _ | .halt _ | .readData _ => true
  | .writeData _ page d1 d2 d3 d4 => page == 0#8 && d1 == 0#8 && d2 == 0#8 && d3 == 0#8 && d4 == 0#8
  | .writeP6 _ _ _ _ _ | .writeP7 _ _ _ _ _ | .writeP8 _ _ _ _ _ | .writeP9 _ _ _ _ _ => true
  | .writeOther _ page => !isPage page
  | .unknown _ fc => !cfg.codes.contains fc

end Sys2Proof
end

