-- ==== Sys2Proof/Decode.lean ====
section
/-! DEFINITION. The decoder, from the fields of a frame and from the bytes of a frame, and after it the encoder
(spec/30_encoding.md R70, R71, R72, R80, R82; spec/41_command_dispatch.md R142; spec/43_page_write.md R170). -/

namespace Sys2Proof

/-! ### Bytes and 16-bit fields (R53, R54, R71) -/

/-- `v[7:0]`. -/
def lowByte (v : Half) : Byte := v.extractLsb' 0 8

/-- `v[15:8]`. -/
def highByte (v : Half) : Byte := v.extractLsb' 8 8

/-- Little-endian pair assembly (R12 law 1, R71): `zext_16(lo) | (zext_16(hi) << 8)`. -/
def pairLE (lo hi : Byte) : Half := lo.setWidth 16 ||| (hi.setWidth 16 <<< 8)

/-- Big-endian pair `{hi, lo}` of the record image and the record id (R54). -/
def pairBE (hi lo : Byte) : Half := hi ++ lo

/-- `xor_fold` (R11): the exclusive or of all bytes of a list, 0 for the empty list. -/
def xorFold (l : List Byte) : Byte := l.foldr (· ^^^ ·) 0#8

/-! ### From the fields of a complete frame to a command -/

/-- The page selector of writeData (R170, R82). -/
def selectPage (address : Half) (page d1 d2 d3 d4 : Byte) : Instr :=
  if page = pageFirst then .writeP6 address d1 d2 d3 d4
  else if page = 7#8 then .writeP7 address d1 d2 d3 d4
  else if page = 8#8 then .writeP8 address d1 d2 d3 d4
  else if page = pageLast then .writeP9 address d1 d2 d3 d4
  else .writeOther address page

/-- The command map (R82) in the order of the tests of R142. `pl` is the payload buffer; the length only tells a frame that
carries no page byte from one that does, and changes no effect (notes/assumptions/20.md). -/
def decodeCommand (cfg : Config) (address fc : Half) (len : Nat) (pl : Nat → Byte) : Instr :=
  if fc = cfg.fcInitPort then .initPort address
  else if fc = cfg.fcSetAntenna then .setAntenna address
  else if fc = cfg.fcRequest then .request address
  else if fc = cfg.fcAntiColl then .antiColl address
  else if fc = cfg.fcSelect then .select address
  else if fc = cfg.fcHalt then .halt address
  else if fc = cfg.fcRead then .readData address
  else if fc = cfg.fcWrite then
    if len = 0 then .writeData address (pl 0) (pl 1) (pl 2) (pl 3) (pl 4)
    else selectPage address (pl 0) (pl 1) (pl 2) (pl 3) (pl 4)
  else .unknown address fc

/-! ### From the bytes of a frame to a command -/

/-- Wire bytes 5 onward of a frame with payload length `n` (R70): address, function code, payload, checksum (not looked at,
R72). Payload positions at or beyond `n` read 0 (R176). -/
def decodeBody (cfg : Config) (n : Nat) : List Byte → Except DecodeError (Instr × List Byte)
  | a0 :: a1 :: f0 :: f1 :: t =>
    if t.length < n + 1 then .error .truncated
    else .ok (decodeCommand cfg (pairLE a0 a1) (pairLE f0 f1) n (fun i => (t.take n).getD i 0#8), t.drop (n + 1))
  | _ => .error .truncated

/-- Wire bytes 3, 4 (R71): accepted only when `5 <= rawLen <= 69`. -/
def decodeLength (cfg : Config) : List Byte → Except DecodeError (Instr × List Byte)
  | l0 :: l1 :: t =>
    let raw := (pairLE l0 l1).toNat
    if raw < rxOverhead then .error .lengthUnderflow
    else if raw - rxOverhead > payloadCap then .error .lengthOverCapacity
    else decodeBody cfg (raw - rxOverhead) t
  | _ => .error .truncated

/-- Wire byte 2. -/
def decodeStart (cfg : Config) : List Byte → Except DecodeError (Instr × List Byte)
  | s1 :: t => if s1 = sync1 then decodeLength cfg t else .error .badSecondSync
  | [] => .error .truncated

/-- The command that the bytes of one frame stand for, with the bytes after the frame; total, rejecting by name (R70, R83). -/
def decode (cfg : Config) : List Byte → Except DecodeError (Instr × List Byte)
  | s0 :: t => if s0 = sync0 then decodeStart cfg t else .error .badFirstSync
  | [] => .error .truncated

/-! ### The encoder -/

/-- The bytes of a command frame (R70) with a given checksum byte. -/
def frameBytes (address fc : Half) (payload : List Byte) (checksum : Byte) : List Byte :=
  let raw : Half := BitVec.ofNat 16 (payload.length + rxOverhead)
  [sync0, sync1, lowByte raw, highByte raw, lowByte address, highByte address, lowByte fc, highByte fc]
    ++ payload ++ [checksum]

/-- The filler checksum (R72): the exclusive or of wire bytes 5 to 8+n. -/
def fillerChecksum (address fc : Half) (payload : List Byte) : Byte :=
  lowByte address ^^^ highByte address ^^^ lowByte fc ^^^ highByte fc ^^^ xorFold payload

/-- The address field of a command's frame. -/
def Instr.address : Instr → Half
  | .initPort a | .setAntenna a | .request a | .antiColl a | .select a | .halt a | .readData a => a
  | .writeData a _ _ _ _ _ | .writeP6 a _ _ _ _ | .writeP7 a _ _ _ _ | .writeP8 a _ _ _ _ | .writeP9 a _ _ _ _ => a
  | .writeOther a _ | .unknown a _ => a

/-- The function code of a command's frame under a configuration (R82). -/
def Instr.functionCode (cfg : Config) : Instr → Half
  | .initPort _ => cfg.fcInitPort
  | .setAntenna _ => cfg.fcSetAntenna
  | .request _ => cfg.fcRequest
  | .antiColl _ => cfg.fcAntiColl
  | .select _ => cfg.fcSelect
  | .halt _ => cfg.fcHalt
  | .readData _ => cfg.fcRead
  | .writeData _ _ _ _ _ _ | .writeP6 _ _ _ _ _ | .writeP7 _ _ _ _ _ | .writeP8 _ _ _ _ _ | .writeP9 _ _ _ _ _ => cfg.fcWrite
  | .writeOther _ _ => cfg.fcWrite
  | .unknown _ fc => fc

/-- A payload that carries a command's operands: none for the commands that read none (R81), five bytes for a page (R80). -/
def Instr.payload : Instr → List Byte
  | .initPort _ | .setAntenna _ | .request _ | .antiColl _ | .select _ | .halt _ | .readData _ => []
  | .writeData _ _ _ _ _ _ => []
  | .writeP6 _ d1 d2 d3 d4 => [pageFirst, d1, d2, d3, d4]
  | .writeP7 _ d1 d2 d3 d4 => [7#8, d1, d2, d3, d4]
  | .writeP8 _ d1 d2 d3 d4 => [8#8, d1, d2, d3, d4]
  | .writeP9 _ d1 d2 d3 d4 => [pageLast, d1, d2, d3, d4]
  | .writeOther _ page => page :: List.replicate pageData 0#8
  | .unknown _ _ => []

/-- The frame of a well-formed command, with the filler checksum. -/
def encode (cfg : Config) (i : Instr) : List Byte :=
  frameBytes i.address (i.functionCode cfg) i.payload (fillerChecksum i.address (i.functionCode cfg) i.payload)

/-! ### The words of spec/opcode_table.json -/

/-- The payload bytes of a table word: its bits 15..0 are the function code, and the bits above count on as payload bytes,
`pl[0]` lowest (notes/assumptions/22.md). The table gives every row 16 bits, so its frames have an empty payload. -/
def tablePayload (nbits w : Nat) : List Byte :=
  (List.range (min ((nbits - 16) / 8) payloadCap)).map (fun i => BitVec.ofNat 8 (w >>> (16 + 8 * i)))

/-- What the decoder reads from a table word laid out as a whole frame with address 0, under the configuration of
`State.reset` (notes/assumptions/2.md, 22.md). -/
def decodeTableWord (nbits w : Nat) : Option Instr :=
  match decode Config.example0 (frameBytes 0#16 (BitVec.ofNat 16 w) (tablePayload nbits w) 0#8) with
  | .ok (i, _) => some i
  | .error _ => none

end Sys2Proof
end

