-- ==== Sys2Proof/Machine/State.lean ====
section
/-! DEFINITION. The state of one frame engine instance (spec/10_state.md R20 to R39), the events that cross its boundary
(R40 to R47), and the state after reset (R38). Plain data throughout. -/

namespace Sys2Proof.Machine

/-- The receiver's sequencing state (R21). `complete` is entered and left inside one byte event. -/
inductive RxState where
  | idle | start | length | address | functionCode | data | checksumSkip | complete
  deriving DecidableEq, Repr

/-- The byte space PL (R50) as its cells in canonical form; what an unlisted index reads as, and the form, are in
Machine/Ops.lean. -/
abbrev Memory := List Host.Cell

/-- The frame registers (R26). -/
structure Frame where
  length       : Half
  address      : Half
  functionCode : Half
  payload      : Memory
  deriving DecidableEq, Repr

/-- What the sync byte and reset leave in the frame registers (R27, R38). -/
abbrev Frame.cleared : Frame := { length := 0#16, address := 0#16, functionCode := 0#16, payload := [] }

/-- The cartridge record, thirteen fields (R29 to R35). -/
structure Record where
  id                    : Half
  magicNumber           : Half
  cartridgeType         : Nibble
  material              : Nibble
  red                   : Byte
  green                 : Byte
  blue                  : Byte
  initialLength         : Len20
  usedLength            : Len20
  printTemperature      : Byte
  firstLayerTemperature : Byte
  dateCode              : Half
  xorTrailer            : Byte
  deriving DecidableEq, Repr

/-- The names of the record's fields, for a host read (R44). -/
inductive RecordField where
  | id | magicNumber | cartridgeType | material | red | green | blue | initialLength | usedLength
  | printTemperature | firstLayerTemperature | dateCode | xorTrailer
  deriving DecidableEq, Repr

/-- `HostWrite(field, value)` (R44): one field, a value of that field's width. `id` is not writable, so it has no write. -/
inductive HostWrite where
  | magicNumber (v : Half)
  | cartridgeType (v : Nibble)
  | material (v : Nibble)
  | red (v : Byte)
  | green (v : Byte)
  | blue (v : Byte)
  | initialLength (v : Len20)
  | usedLength (v : Len20)
  | printTemperature (v : Byte)
  | firstLayerTemperature (v : Byte)
  | dateCode (v : Half)
  | xorTrailer (v : Byte)
  deriving DecidableEq, Repr

/-- What can happen to the engine, one event a step: the byte event (R40), the host's accesses between byte events
(R44, R45) and reset (R230). -/
inductive Event where
  | rxByte (b : Byte) (now : Time)
  | hostWrite (w : HostWrite)
  | hostRead (f : RecordField)
  | hostLoad (r : Record)
  | reset
  deriving DecidableEq, Repr

/-- What the engine hands out: a response (R41), a save of the whole record with the instance's store offset (R42, R6), an
unknown command code (R43), and the value a host read returned (R44), extended with zeros to the widest field. -/
inductive Output where
  | response (bytes : List Byte)
  | save (offset : Nat) (r : Record)
  | unknownCmd (fc : Half)
  | hostData (f : RecordField) (v : Len20)
  deriving DecidableEq, Repr

/-- The causes of a framing abort (R11, R200 to R204). Ghost: the hardware records none (R208; notes/assumptions/19.md). -/
inductive AbortCause where
  | badSecondSync | lengthUnderflow | lengthOverCapacity | rxTimeout
  deriving DecidableEq, Repr

/-- The state. `cfg` is the instance's configuration, which no event changes (R20; notes/assumptions/1.md). `inputs` are the
events still to come and `outputs` what has been emitted, both oldest first (notes/assumptions/5.md, 6.md). `aborts` is the
model's own ghost (notes/assumptions/19.md). -/
structure State where
  cfg     : Config
  rxState : RxState
  pairHi  : Bool
  rxIndex : BitVec 7
  tStart  : Time
  frm     : Frame
  record  : Record
  inputs  : List Event
  outputs : List Output
  aborts  : List AbortCause
  deriving DecidableEq, Repr

/-- Why the machine stops. The hardware never does ("Nothing in this subsystem is fatal", R200). -/
inductive Fault where
  /-- Raised by the Data state when `rx_index` names no cell of the payload buffer (R51). Safe: no state that satisfies
  `Inv` raises it (notes/assumptions/21.md). -/
  | payloadIndexOutOfRange
  deriving DecidableEq, Repr

/-- Why an instruction has no meaning. -/
inductive Refusal where
  /-- Raised by an arm of `exec` whose instruction is not modelled yet; no arm is such. Safe. -/
  | notModelled (mnemonic : String)
  deriving DecidableEq, Repr

/-- The record at construction (R38, decision D18; notes/assumptions/3.md, 4.md): the firmware defaults of the source
("magic number, PLA, white, zero lengths") and the configuration's defaults for what it leaves open. -/
def Record.defaults (cfg : Config) : Record where
  id                    := cfg.slotId
  magicNumber           := cfg.magicDefault
  cartridgeType         := ctNormal
  material              := matPLA
  red                   := 0xFF#8
  green                 := 0xFF#8
  blue                  := 0xFF#8
  initialLength         := 0#20
  usedLength            := 0#20
  printTemperature      := cfg.ptDefault
  firstLayerTemperature := cfg.fltDefault
  dateCode              := cfg.dateDefault
  xorTrailer            := cfg.xtDefault

/-- An instance right after construction with a configuration (R38, R230). -/
def State.resetWith (cfg : Config) : State where
  cfg     := cfg
  rxState := .idle
  pairHi  := false
  rxIndex := 0#7
  tStart  := 0#32
  frm     := Frame.cleared
  record  := Record.defaults cfg
  inputs  := []
  outputs := []
  aborts  := []

/-- The machine right after reset, with the configuration of notes/assumptions/2.md and 3.md. -/
def State.reset : State := State.resetWith Config.example0

end Sys2Proof.Machine
end

