-- ==== Sys2Proof/Machine/Ops.lean ====
section
/-! DEFINITION. The named operations over the payload buffer, the registers and the outputs, and the two ways a condition is
raised (spec/00_scope.md R11). There is no return from either (spec/60_exceptions.md R212). -/

namespace Sys2Proof.Machine

/-! ### The payload buffer PL (R50, R51) -/

/-- What an index that is not listed reads as: the buffer is cleared to 0 at reset and at every sync byte (R27, R38). -/
def Memory.unlisted : Byte := 0#8

/-- `MemRead(PL, i, 1)`. -/
def Memory.read (m : Memory) (i : Nat) : Byte := (List.lookup i m).getD Memory.unlisted

/-- `MemWrite(PL, i, 1, v)`, keeping the cells ascending and unlisted values out. -/
def Memory.write (m : Memory) (i : Nat) (v : Byte) : Memory :=
  match m with
  | [] => if v = Memory.unlisted then [] else [(i, v)]
  | (k, w) :: rest =>
    if i < k then (if v = Memory.unlisted then (k, w) :: rest else (i, v) :: (k, w) :: rest)
    else if i = k then (if v = Memory.unlisted then rest else (i, v) :: rest)
    else (k, w) :: Memory.write rest i v

/-- The canonical form: indices strictly rising and inside the buffer, no cell equal to what an unlisted index reads as. -/
abbrev Memory.wf (m : Memory) : Prop :=
  m.Pairwise (fun c d => c.1 < d.1) ∧ ∀ c ∈ m, c.1 < payloadCap ∧ c.2 ≠ Memory.unlisted

/-! ### Register writes -/

def State.setRxState (v : RxState) (s : State) : State := { s with rxState := v }
def State.setPairHi (v : Bool) (s : State) : State := { s with pairHi := v }
def State.setRxIndex (v : BitVec 7) (s : State) : State := { s with rxIndex := v }
def State.setTStart (v : Time) (s : State) : State := { s with tStart := v }
def State.setFrm (v : Frame) (s : State) : State := { s with frm := v }
def State.setRecord (v : Record) (s : State) : State := { s with record := v }
def State.setInputs (v : List Event) (s : State) : State := { s with inputs := v }

/-- `frm.length <- v`. -/
def State.setLength (v : Half) (s : State) : State := s.setFrm { s.frm with length := v }

/-- `frm.address <- v`. -/
def State.setAddress (v : Half) (s : State) : State := s.setFrm { s.frm with address := v }

/-- `frm.functionCode <- v`. -/
def State.setFunctionCode (v : Half) (s : State) : State := s.setFrm { s.frm with functionCode := v }

/-- `frm.payload[i] <- v`; an index outside the buffer does not exist (R51; notes/assumptions/21.md). -/
def State.storePayload (i : Nat) (v : Byte) (s : State) : Host.Outcome State Fault Refusal :=
  if i < payloadCap then .next (s.setFrm { s.frm with payload := s.frm.payload.write i v })
  else .fault .payloadIndexOutOfRange

/-! ### Outputs and conditions -/

/-- `emit` (R11): the outputs of the steps so far, oldest first. -/
def State.emit (o : Output) (s : State) : State := { s with outputs := s.outputs ++ [o] }

/-- The ghost record of a framing abort (R208). -/
def State.noteAbort (c : AbortCause) (s : State) : State := { s with aborts := s.aborts ++ [c] }

/-- `raise FramingAbort(cause)` (R11, R211): `rx_state <- Idle`; no response, no dispatch, everything else as it was. -/
def State.framingAbort (c : AbortCause) (s : State) : State := (s.setRxState .idle).noteAbort c

/-- `raise UnknownCommand(fc)` (R11, R205): the event and nothing else. -/
def State.unknownCommand (fc : Half) (s : State) : State := s.emit (.unknownCmd fc)

end Sys2Proof.Machine
end

