-- ==== Sys2Proof/Machine/Response.lean ====
section
/-! DEFINITION. The response frame builder (spec/44_response_builder.md R185 to R192). -/

namespace Sys2Proof.Machine

/-- One turn of the loop of R192 on `(out, x)`: the escape before a payload byte 0xAA (R189), the byte, the running XOR. -/
def buildByte (acc : List Byte × Byte) (p : Byte) : List Byte × Byte :=
  ((if p = sync0 then acc.1 ++ [escByte] else acc.1) ++ [p], acc.2 ^^^ p)

/-- `build(address, fc, payload)` as the loop of R192; defined for any list, `pktLen` modulo 2^16 (decision D22;
notes/assumptions/23.md). -/
def build (address fc : Half) (payload : List Byte) : List Byte :=
  let pktLen : Half := BitVec.ofNat 16 (payload.length + txOverhead)
  let header := [sync0, sync1, lowByte pktLen, highByte pktLen,
    lowByte address, highByte address, lowByte fc, highByte fc, statusOk]
  let x := lowByte address ^^^ highByte address ^^^ lowByte fc ^^^ highByte fc
  let acc := payload.foldl buildByte (header, x)
  acc.1 ++ [acc.2]

/-- `emit Response(build(address, fc, payload))` (R131). -/
def State.respond (address fc : Half) (payload : List Byte) (s : State) : State :=
  s.emit (.response (build address fc payload))

/-- The bytes of an output that go to the transport. -/
def Output.txBytes : Output → List Byte
  | .response bytes => bytes
  | .save _ _ | .unknownCmd _ | .hostData _ _ => []

/-- The TX stream (spec/20_memory.md R50, R65): the responses so far, in the order they were emitted. -/
def State.txStream (s : State) : List Byte := s.outputs.flatMap Output.txBytes

end Sys2Proof.Machine
end

