-- ==== Sys2Proof/Machine/Housekeeping.lean ====
section
/-! DEFINITION. INITPORT, SETANTENNA, REQUEST, ANTICOLL, SELECT, HALT and the unrecognized code
(spec/41_command_dispatch.md R133 to R138, R141). A response carries the address and function code of its command (R131);
the function code is the configured one, which the decoder has matched (notes/assumptions/11.md). -/

namespace Sys2Proof.Machine

/-- R133: empty success. -/
def execInitPort (address : Half) (s : State) : Host.Outcome State Fault Refusal :=
  .next (s.respond address s.cfg.fcInitPort [])

/-- R134: no effect, no response, no event. -/
def execSetAntenna (_address : Half) (s : State) : Host.Outcome State Fault Refusal :=
  .next s

/-- R135: the capability payload. -/
def execRequest (address : Half) (s : State) : Host.Outcome State Fault Refusal :=
  .next (s.respond address s.cfg.fcRequest [0x44#8, 0x00#8])

/-- R136: the fixed bytes and the record id, big-endian. -/
def execAntiColl (address : Half) (s : State) : Host.Outcome State Fault Refusal :=
  .next (s.respond address s.cfg.fcAntiColl [0x88#8, 0x04#8, highByte s.record.id, lowByte s.record.id])

/-- R137: one byte 04. -/
def execSelect (address : Half) (s : State) : Host.Outcome State Fault Refusal :=
  .next (s.respond address s.cfg.fcSelect [0x04#8])

/-- R138: empty success; the engine does not stop answering. -/
def execHalt (address : Half) (s : State) : Host.Outcome State Fault Refusal :=
  .next (s.respond address s.cfg.fcHalt [])

/-- R141: the UnknownCmd event and no response. -/
def execUnknown (_address : Half) (functionCode : Half) (s : State) : Host.Outcome State Fault Refusal :=
  .next (s.unknownCommand functionCode)

end Sys2Proof.Machine
end

