-- ==== Sys2Proof/Machine/Codec.lean ====
section
/-! DEFINITION. The record image: packer and unpacker (spec/42_record_codec.md R150, R154). -/

namespace Sys2Proof.Machine

/-- The 16 bytes of the record image; `img[k]` of the spec, `k` in 1..16, is index `k - 1` (R10). -/
abbrev Image := Vector Byte imageLen

/-- `img[1..15]`. -/
def Record.body (r : Record) : Vector Byte 15 :=
  #v[highByte r.magicNumber, lowByte r.magicNumber,
    r.cartridgeType ++ r.material,
    r.red, r.green, r.blue,
    r.initialLength.extractLsb' 12 8, r.initialLength.extractLsb' 4 8,
    r.initialLength.extractLsb' 0 4 ++ r.usedLength.extractLsb' 16 4,
    r.usedLength.extractLsb' 8 8, r.usedLength.extractLsb' 0 8,
    r.printTemperature, r.firstLayerTemperature,
    highByte r.dateCode, lowByte r.dateCode]

/-- `encode(rec)` (R150). Byte 16 is computed, never `xorTrailer` (R152). -/
def Record.encode (r : Record) : Image := r.body.push (xorFold r.body.toList)

/-- `decode(rec, img)` (R154): every field but `id`, no check (R156). -/
def Record.decode (r : Record) (m : Image) : Record where
  id                    := r.id
  magicNumber           := pairBE m[0] m[1]
  cartridgeType         := m[2].extractLsb' 4 4
  material              := m[2].extractLsb' 0 4
  red                   := m[3]
  green                 := m[4]
  blue                  := m[5]
  initialLength         := m[6] ++ m[7] ++ m[8].extractLsb' 4 4
  usedLength            := m[8].extractLsb' 0 4 ++ m[9] ++ m[10]
  printTemperature      := m[11]
  firstLayerTemperature := m[12]
  dateCode              := pairBE m[13] m[14]
  xorTrailer            := m[15]

end Sys2Proof.Machine
end

