-- ==== Sys2Proof/Machine/ReadData.lean ====
section
/-! DEFINITION. READDATA (spec/41_command_dispatch.md R139). -/

namespace Sys2Proof.Machine

/-- R139: the whole record image. -/
def execReadData (address : Half) (s : State) : Host.Outcome State Fault Refusal :=
  .next (s.respond address s.cfg.fcRead s.record.encode.toList)

end Sys2Proof.Machine
end

