-- ==== Sys2Proof/Machine/WriteData.lean ====
section
/-! DEFINITION. WRITEDATA and its pages (spec/41_command_dispatch.md R140, spec/43_page_write.md R170 to R177). Each page
replaces exactly the record bits its four image bytes carry (R182; notes/assumptions/13.md); nothing is validated (R178). -/

namespace Sys2Proof.Machine

/-- R171. -/
def Record.page6 (d1 d2 d3 d4 : Byte) (r : Record) : Record :=
  { r with
    magicNumber := pairBE d1 d2, cartridgeType := d3.extractLsb' 4 4, material := d3.extractLsb' 0 4, red := d4 }

/-- R172: bits 3..0 of `initialLength` keep their value. -/
def Record.page7 (d1 d2 d3 d4 : Byte) (r : Record) : Record :=
  { r with green := d1, blue := d2, initialLength := d3 ++ d4 ++ r.initialLength.extractLsb' 0 4 }

/-- R173: bits 19..4 of `initialLength` keep their value. -/
def Record.page8 (d1 d2 d3 d4 : Byte) (r : Record) : Record :=
  { r with
    initialLength := r.initialLength.extractLsb' 4 16 ++ d1.extractLsb' 4 4,
    usedLength := d1.extractLsb' 0 4 ++ d2 ++ d3, printTemperature := d4 }

/-- R174, the fields only. -/
def Record.page9 (d1 d2 d3 d4 : Byte) (r : Record) : Record :=
  { r with firstLayerTemperature := d1, dateCode := pairBE d2 d3, xorTrailer := d4 }

/-- R175, the reset of unlimited-filament mode. -/
def Record.unlimitedReset (unlimited : Bool) (r : Record) : Record :=
  if unlimited then { r with usedLength := 0#20 } else r

/-- `emit Save(rec)` (R42). -/
def State.save (s : State) : State := s.emit (.save s.cfg.storeOffset s.record)

/-- `write_page` for page 9 (R174 then R175): the fields, then the reset, then the Save. -/
def State.writePage9 (d1 d2 d3 d4 : Byte) (s : State) : State :=
  (s.setRecord ((s.record.page9 d1 d2 d3 d4).unlimitedReset s.cfg.unlimitedFilament)).save

/-- `write_page` (R170): any other page changes nothing (R177). -/
def State.writePage (page d1 d2 d3 d4 : Byte) (s : State) : State :=
  if page = pageFirst then s.setRecord (s.record.page6 d1 d2 d3 d4)
  else if page = 7#8 then s.setRecord (s.record.page7 d1 d2 d3 d4)
  else if page = 8#8 then s.setRecord (s.record.page8 d1 d2 d3 d4)
  else if page = pageLast then s.writePage9 d1 d2 d3 d4
  else s

/-- R140: the page write, then empty success, for every page number. -/
def execWriteData (address : Half) (page d1 d2 d3 d4 : Byte) (s : State) : Host.Outcome State Fault Refusal :=
  .next ((s.writePage page d1 d2 d3 d4).respond address s.cfg.fcWrite [])

/-- R171 under R140. -/
def execWriteP6 (address : Half) (d1 d2 d3 d4 : Byte) (s : State) : Host.Outcome State Fault Refusal :=
  .next ((s.setRecord (s.record.page6 d1 d2 d3 d4)).respond address s.cfg.fcWrite [])

/-- R172 under R140. -/
def execWriteP7 (address : Half) (d1 d2 d3 d4 : Byte) (s : State) : Host.Outcome State Fault Refusal :=
  .next ((s.setRecord (s.record.page7 d1 d2 d3 d4)).respond address s.cfg.fcWrite [])

/-- R173 under R140. -/
def execWriteP8 (address : Half) (d1 d2 d3 d4 : Byte) (s : State) : Host.Outcome State Fault Refusal :=
  .next ((s.setRecord (s.record.page8 d1 d2 d3 d4)).respond address s.cfg.fcWrite [])

/-- R174 and R175 under R140; the Save stands before the response (R145). -/
def execWriteP9 (address : Half) (d1 d2 d3 d4 : Byte) (s : State) : Host.Outcome State Fault Refusal :=
  .next ((s.writePage9 d1 d2 d3 d4).respond address s.cfg.fcWrite [])

/-- R177: nothing but empty success. -/
def execWriteOther (address : Half) (_page : Byte) (s : State) : Host.Outcome State Fault Refusal :=
  .next (s.respond address s.cfg.fcWrite [])

end Sys2Proof.Machine
end

