-- ==== Sys2Proof/Machine/Dispatch.lean ====
section
/-! DEFINITION. The meaning of every command (spec/41_command_dispatch.md R142). -/

namespace Sys2Proof.Machine

def exec (i : Instr) (s : State) : Host.Outcome State Fault Refusal :=
  match i with
  | .initPort address => Sys2Proof.Machine.execInitPort address s
  | .setAntenna address => Sys2Proof.Machine.execSetAntenna address s
  | .request address => Sys2Proof.Machine.execRequest address s
  | .antiColl address => Sys2Proof.Machine.execAntiColl address s
  | .select address => Sys2Proof.Machine.execSelect address s
  | .halt address => Sys2Proof.Machine.execHalt address s
  | .readData address => Sys2Proof.Machine.execReadData address s
  | .writeData address page d1 d2 d3 d4 => Sys2Proof.Machine.execWriteData address page d1 d2 d3 d4 s
  | .writeP6 address d1 d2 d3 d4 => Sys2Proof.Machine.execWriteP6 address d1 d2 d3 d4 s
  | .writeP7 address d1 d2 d3 d4 => Sys2Proof.Machine.execWriteP7 address d1 d2 d3 d4 s
  | .writeP8 address d1 d2 d3 d4 => Sys2Proof.Machine.execWriteP8 address d1 d2 d3 d4 s
  | .writeP9 address d1 d2 d3 d4 => Sys2Proof.Machine.execWriteP9 address d1 d2 d3 d4 s
  | .writeOther address page => Sys2Proof.Machine.execWriteOther address page s
  | .unknown address functionCode => Sys2Proof.Machine.execUnknown address functionCode s

end Sys2Proof.Machine
end

