-- ==== Sys2Proof/Machine/HostAccess.lean ====
section
/-! DEFINITION. The host's accesses to the record, between byte events (spec/10_state.md R44, R45), and reset (R38, R230). -/

namespace Sys2Proof.Machine

/-- One field of the record replaced (R44). -/
def Record.hostWrite (r : Record) : HostWrite → Record
  | .magicNumber v => { r with magicNumber := v }
  | .cartridgeType v => { r with cartridgeType := v }
  | .material v => { r with material := v }
  | .red v => { r with red := v }
  | .green v => { r with green := v }
  | .blue v => { r with blue := v }
  | .initialLength v => { r with initialLength := v }
  | .usedLength v => { r with usedLength := v }
  | .printTemperature v => { r with printTemperature := v }
  | .firstLayerTemperature v => { r with firstLayerTemperature := v }
  | .dateCode v => { r with dateCode := v }
  | .xorTrailer v => { r with xorTrailer := v }

/-- The value of one field, extended with zeros to 20 bits (notes/assumptions/17.md). -/
def Record.hostRead (r : Record) : RecordField → Len20
  | .id => r.id.setWidth 20
  | .magicNumber => r.magicNumber.setWidth 20
  | .cartridgeType => r.cartridgeType.setWidth 20
  | .material => r.material.setWidth 20
  | .red => r.red.setWidth 20
  | .green => r.green.setWidth 20
  | .blue => r.blue.setWidth 20
  | .initialLength => r.initialLength
  | .usedLength => r.usedLength
  | .printTemperature => r.printTemperature.setWidth 20
  | .firstLayerTemperature => r.firstLayerTemperature.setWidth 20
  | .dateCode => r.dateCode.setWidth 20
  | .xorTrailer => r.xorTrailer.setWidth 20

/-- `HostWrite(field, value)` (R44). -/
def State.hostWrite (w : HostWrite) (s : State) : State := s.setRecord (s.record.hostWrite w)

/-- A host read of a field (R44): it changes nothing but what the host has been given. -/
def State.hostRead (f : RecordField) (s : State) : State := s.emit (.hostData f (s.record.hostRead f))

/-- `HostLoad(r)` (R45): every field but `id`. -/
def State.hostLoad (r : Record) (s : State) : State := s.setRecord { r with id := s.record.id }

/-- Reset (R230, R231): every element of the engine at its reset value under the instance's configuration. What the host
still has to deliver and what it has already received are not the engine's (notes/assumptions/18.md). -/
def State.resetEngine (s : State) : State :=
  { State.resetWith s.cfg with inputs := s.inputs, outputs := s.outputs, aborts := s.aborts }

end Sys2Proof.Machine
end

