-- ==== Sys2Proof/Machine/Flags.lean ====
section
/-! DEFINITION. The one flag, `pair_hi` (spec/10_state.md R22, R37), and the comparisons that decide a transition
(spec/40_frame_receiver.md R101, R106, R108, R110). -/

namespace Sys2Proof.Machine

/-- `pair_hi <- 0`: the next byte of a two-byte field is the low byte. -/
def State.expectLow (s : State) : State := s.setPairHi false

/-- `pair_hi <- 1`: the low byte has been consumed. -/
def State.expectHigh (s : State) : State := s.setPairHi true

/-- Elapsed time (R12 law 5): modular, unsigned. -/
def elapsed (now tStart : Time) : Nat := (now - tStart).toNat

/-- The timeout condition (R101): not Idle, and strictly more than RX_TIMEOUT since the first sync byte. -/
def State.timedOut (now : Time) (s : State) : Bool :=
  s.rxState != .idle && decide (rxTimeout < elapsed now s.tStart)

/-- `raw < 5` (R106). -/
def lengthUnderflows (raw : Half) : Bool := decide (raw.toNat < rxOverhead)

/-- `raw - 5 > 64`, asked only when `raw >= 5` (R106, R12 law 3). -/
def lengthOverCapacity (raw : Half) : Bool := decide (raw.toNat - rxOverhead > payloadCap)

/-- `rx_index == frm.length` (R110). -/
def State.payloadDone (s : State) : Bool := s.rxIndex.toNat == s.frm.length.toNat

end Sys2Proof.Machine
end

