-- ==== Sys2Proof/Machine/Operands.lean ====
section
/-! DEFINITION. How the bytes of a frame become the operands of a command: pair assembly (spec/40_frame_receiver.md R104) and
the reads of the frame registers at dispatch (spec/10_state.md R46, spec/41_command_dispatch.md R130). -/

namespace Sys2Proof.Machine

/-- The low byte of a pair assigns (R104). -/
def pairLow (b : Byte) : Half := b.setWidth 16

/-- The high byte of a pair is or-ed into bits 15..8 (R104). -/
def pairHigh (r : Half) (b : Byte) : Half := r ||| (b.setWidth 16 <<< 8)

/-- The payload length of an accepted raw length (R106, R12 law 2). -/
def payloadLength (raw : Half) : Half := raw - BitVec.ofNat 16 rxOverhead

/-- The command in the frame registers: payload bytes are read from the buffer whatever the length (R176). -/
def decodeFrame (cfg : Config) (f : Frame) : Instr :=
  decodeCommand cfg f.address f.functionCode f.length.toNat f.payload.read

/-- The decoded-frame tap (R46, R100): the frame registers, in the event that completes a frame. -/
def State.tap (s : State) : Option Frame := if s.rxState = .complete then some s.frm else none

end Sys2Proof.Machine
end

