-- ==== Sys2Proof/Machine/Receiver.lean ====
section
/-! DEFINITION. The frame receiver: the timeout check and one action per state (spec/40_frame_receiver.md R100 to R114). -/

namespace Sys2Proof.Machine

/-- R101: the check at the head of every byte event. -/
def State.timeoutCheck (now : Time) (s : State) : State :=
  if s.timedOut now then s.framingAbort .rxTimeout else s

/-- R102, Idle: 0xAA records the time and clears the frame registers (R27); any other byte is ignored. -/
def rxIdle (b : Byte) (now : Time) (s : State) : State :=
  if b = sync0 then (((s.setTStart now).setFrm Frame.cleared).setRxIndex 0#7).setRxState .start
  else s

/-- R103, Start: the aborting byte is consumed and not examined again. -/
def rxStart (b : Byte) (s : State) : State :=
  if b = sync1 then s.expectLow.setRxState .length
  else s.framingAbort .badSecondSync

/-- R105, Length, low byte. -/
def rxLengthLow (b : Byte) (s : State) : State :=
  (s.setLength (pairLow b)).expectHigh

/-- R106, Length, high byte. -/
def rxLengthHigh (b : Byte) (s : State) : State :=
  let raw := pairHigh s.frm.length b
  let s1 := s.expectLow.setLength raw
  if lengthUnderflows raw then s1.framingAbort .lengthUnderflow
  else if lengthOverCapacity raw then s1.framingAbort .lengthOverCapacity
  else (s1.setLength (payloadLength raw)).setRxState .address

/-- R107, Address. -/
def rxAddress (b : Byte) (s : State) : State :=
  if s.pairHi then ((s.setAddress (pairHigh s.frm.address b)).expectLow).setRxState .functionCode
  else (s.setAddress (pairLow b)).expectHigh

/-- R108, FunctionCode: after the high byte the index is 0 and an empty payload skips Data. -/
def rxFunctionCode (b : Byte) (s : State) : State :=
  if s.pairHi then
    (((s.setFunctionCode (pairHigh s.frm.functionCode b)).expectLow).setRxIndex 0#7).setRxState
      (if s.frm.length = 0#16 then .checksumSkip else .data)
  else (s.setFunctionCode (pairLow b)).expectHigh

/-- R110, after the byte is stored: count it, and leave Data when the payload is whole. -/
def State.countPayloadByte (s : State) : State :=
  let s1 := s.setRxIndex (s.rxIndex + 1#7)
  if s1.payloadDone then s1.setRxState .checksumSkip else s1

/-- R110, Data. -/
def rxData (b : Byte) (s : State) : Host.Outcome State Fault Refusal :=
  match s.storePayload s.rxIndex.toNat b with
  | .next s1 => .next s1.countPayloadByte
  | .fault r => .fault r
  | .refused r => .refused r

/-- The action of the state on the byte (R114). ChecksumSkip reads the byte and discards it (R111); Complete, unreachable as
a resting state, stays where it is and so gets the action of R112. -/
def rxAction (b : Byte) (now : Time) (s : State) : Host.Outcome State Fault Refusal :=
  match s.rxState with
  | .idle => .next (rxIdle b now s)
  | .start => .next (rxStart b s)
  | .length => .next (if s.pairHi then rxLengthHigh b s else rxLengthLow b s)
  | .address => .next (rxAddress b s)
  | .functionCode => .next (rxFunctionCode b s)
  | .data => rxData b s
  | .checksumSkip => .next (s.setRxState .complete)
  | .complete => .next s

/-- `consumeByte(b)` (R100): the timeout check, then the state action. The completed frame, if any, is the tap of the state
it answers (R46). -/
def consumeByte (b : Byte) (now : Time) (s : State) : Host.Outcome State Fault Refusal :=
  rxAction b now (s.timeoutCheck now)

end Sys2Proof.Machine
end

