-- ==== Sys2Proof/Machine/Cycle.lean ====
section
/-! DEFINITION. One event: the byte event with the dispatch of a completed frame (spec/40_frame_receiver.md R112, R114), the
host events and reset. And how a frame is put in front of the machine for a single step. -/

namespace Sys2Proof.Machine

/-- R112, Complete: dispatch, then `rx_state <- Idle`. -/
def complete (f : Frame) (s : State) : Host.Outcome State Fault Refusal :=
  match exec (decodeFrame s.cfg f) s with
  | .next t => .next (t.setRxState .idle)
  | .fault r => .fault r
  | .refused r => .refused r

/-- A completed frame is dispatched inside the event that completes it (R100, R112). -/
def dispatchTap (s : State) : Host.Outcome State Fault Refusal :=
  match s.tap with
  | some f => complete f s
  | none => .next s

/-- The byte event `RxByte(b, now)` (R7, R114). -/
def byteEvent (b : Byte) (now : Time) (s : State) : Host.Outcome State Fault Refusal :=
  match consumeByte b now s with
  | .next s1 => dispatchTap s1
  | .fault r => .fault r
  | .refused r => .refused r

/-- One event of the total order (R60, R61). -/
def runEvent (e : Event) (s : State) : Host.Outcome State Fault Refusal :=
  match e with
  | .rxByte b now => byteEvent b now s
  | .hostWrite w => .next (s.hostWrite w)
  | .hostRead f => .next (s.hostRead f)
  | .hostLoad r => .next (s.hostLoad r)
  | .reset => .next s.resetEngine

/-- A payload as the receiver stores it, from a given index on. -/
def storeFrom (i : Nat) (l : List Byte) (m : Memory) : Memory :=
  match l with
  | [] => m
  | b :: t => storeFrom (i + 1) t (m.write i b)

/-- The frame registers of a received frame. -/
def receivedFrame (address fc : Half) (payload : List Byte) : Frame where
  length       := BitVec.ofNat 16 payload.length
  address      := address
  functionCode := fc
  payload      := storeFrom 0 payload []

/-- A state in which a frame has been received up to its checksum byte, with that byte (any value does, R111) as the next
event, in time (notes/assumptions/22.md). -/
def State.awaitChecksum (f : Frame) (s : State) : State :=
  { s with
    rxState := .checksumSkip, pairHi := false, rxIndex := f.length.setWidth 7, frm := f,
    inputs := .rxByte 0#8 s.tStart :: s.inputs }

end Sys2Proof.Machine
end

