-- ==== Sys2Proof/Machine/Step.lean ====
section
/-! DEFINITION. The step: the oldest event still to come is taken (spec/20_memory.md R60, R65). With no event to come the
engine waits, unchanged (notes/assumptions/5.md). -/

namespace Sys2Proof.Machine

def step (s : State) : Host.Outcome State Fault Refusal :=
  match s.inputs with
  | [] => .next s
  | e :: rest => runEvent e (s.setInputs rest)

/-- The frame of a table word received up to its checksum byte, so that the next step dispatches it
(notes/assumptions/22.md). -/
def State.withFetchWord (s : State) (nbits w : Nat) : State :=
  s.awaitChecksum (receivedFrame 0#16 (BitVec.ofNat 16 w) (tablePayload nbits w))

end Sys2Proof.Machine
end

