-- ==== Sys2Proof/Safety.lean ====
section
/-! DEFINITION. What a sound state is: the invariant every step keeps (spec/10_state.md R21, R23, R26, R30, R36,
spec/20_memory.md R51, spec/40_frame_receiver.md R116, R117). -/

namespace Sys2Proof.Machine

/-- What each resting state says of the sequencing registers and the frame registers (R26, R105 to R110). -/
def State.phaseOk (s : State) : Prop :=
  match s.rxState with
  | .idle => True
  | .start => s.frm = Frame.cleared ∧ s.rxIndex = 0#7
  | .length =>
    s.rxIndex = 0#7 ∧ s.frm.address = 0#16 ∧ s.frm.functionCode = 0#16 ∧ s.frm.payload = [] ∧ s.frm.length.toNat < 256 ∧
      (s.pairHi = false → s.frm.length = 0#16)
  | .address =>
    s.rxIndex = 0#7 ∧ s.frm.functionCode = 0#16 ∧ s.frm.payload = [] ∧ s.frm.length.toNat ≤ payloadCap ∧
      s.frm.address.toNat < 256 ∧ (s.pairHi = false → s.frm.address = 0#16)
  | .functionCode =>
    s.rxIndex = 0#7 ∧ s.frm.payload = [] ∧ s.frm.length.toNat ≤ payloadCap ∧
      s.frm.functionCode.toNat < 256 ∧ (s.pairHi = false → s.frm.functionCode = 0#16)
  | .data =>
    s.pairHi = false ∧ s.rxIndex.toNat < s.frm.length.toNat ∧ s.frm.length.toNat ≤ payloadCap ∧
      ∀ c ∈ s.frm.payload, c.1 < s.rxIndex.toNat
  | .checksumSkip =>
    s.pairHi = false ∧ s.rxIndex.toNat = s.frm.length.toNat ∧ s.frm.length.toNat ≤ payloadCap ∧
      ∀ c ∈ s.frm.payload, c.1 < s.frm.length.toNat
  | .complete => False

/-- The invariant. -/
structure Inv (s : State) : Prop where
  /-- Complete is not a resting state, and each resting state's registers are as its rule leaves them. -/
  phase : s.phaseOk
  /-- The payload buffer keeps its canonical form, all of it inside the 64 bytes. -/
  memory : s.frm.payload.wf
  /-- `rx_index` is in 0..64 (R23). -/
  index : s.rxIndex.toNat ≤ payloadCap
  /-- `rec.id` equals SLOT_ID (R30). -/
  id : s.record.id = s.cfg.slotId

end Sys2Proof.Machine
end

