-- ==== Sys2Proof/Certificates/Slice0/Obligations.lean ====
section
/-! DEFINITION. The statements for the provers, and the spec's own formulas they are written with (namespace Sys2Proof.Spec):
these are copied from the rules' shifts and masks and share no code with the model's definitions. -/

namespace Sys2Proof.Spec

open Sys2Proof.Machine

/-! ### The spec's formulas -/

/-- `v & 0xFF` and `(v >> 8) & 0xFF` of a 16-bit value. -/
def lo (v : Half) : Byte := v.setWidth 8
def hi (v : Half) : Byte := (v >>> 8).setWidth 8

/-- The exclusive or of a list of bytes (R11, R191). -/
def xorAll (l : List Byte) : Byte := l.foldl (· ^^^ ·) 0#8

/-- The escape rule (R189): 0x00 before each 0xAA. -/
def escaped (p : List Byte) : List Byte := p.flatMap fun b => if b = 0xAA#8 then [0x00#8, 0xAA#8] else [b]

/-- The response frame in closed form (R75, R186 to R191). -/
def responseFrame (a fc : Half) (p : List Byte) : List Byte :=
  [0xAA#8, 0xBB#8, lo (BitVec.ofNat 16 (p.length + 6)), hi (BitVec.ofNat 16 (p.length + 6))]
    ++ [lo a, hi a, lo fc, hi fc, 0x00#8] ++ escaped p ++ [xorAll ([lo a, hi a, lo fc, hi fc, 0x00#8] ++ p)]

/-- Empty success (R144): ten bytes. -/
def emptySuccess (a fc : Half) : List Byte :=
  [0xAA#8, 0xBB#8, 0x06#8, 0x00#8, lo a, hi a, lo fc, hi fc, 0x00#8, lo a ^^^ hi a ^^^ lo fc ^^^ hi fc]

/-- Bytes 1 to 15 of the record image in the shifts and masks of R150. -/
def imageBody (r : Record) : List Byte :=
  [ hi r.magicNumber, lo r.magicNumber,
    (r.cartridgeType.setWidth 8 <<< 4) ||| r.material.setWidth 8,
    r.red, r.green, r.blue,
    ((r.initialLength >>> 12) &&& 0xFF#20).setWidth 8, ((r.initialLength >>> 4) &&& 0xFF#20).setWidth 8,
    (((r.initialLength &&& 0xF#20) <<< 4) ||| ((r.usedLength >>> 16) &&& 0xF#20)).setWidth 8,
    ((r.usedLength >>> 8) &&& 0xFF#20).setWidth 8, (r.usedLength &&& 0xFF#20).setWidth 8,
    r.printTemperature, r.firstLayerTemperature, hi r.dateCode, lo r.dateCode ]

/-- The record image (R150): byte 16 is the exclusive or of the others. -/
def image (r : Record) : List Byte := imageBody r ++ [xorAll (imageBody r)]

/-- Big-endian pair `(d1 << 8) | d2`. -/
def pair (d1 d2 : Byte) : Half := (d1.setWidth 16 <<< 8) ||| d2.setWidth 16

/-- The assignments of pages 6 to 9 in the shifts and masks of R171 to R174. -/
def page6 (d1 d2 d3 d4 : Byte) (r : Record) : Record :=
  { r with magicNumber := pair d1 d2, cartridgeType := (d3 >>> 4).setWidth 4, material := d3.setWidth 4, red := d4 }
def page7 (d1 d2 d3 d4 : Byte) (r : Record) : Record :=
  { r with
    green := d1, blue := d2,
    initialLength := (d3.setWidth 20 <<< 12) ||| (d4.setWidth 20 <<< 4) ||| (r.initialLength &&& 0xF#20) }
def page8 (d1 d2 d3 d4 : Byte) (r : Record) : Record :=
  { r with
    initialLength := (r.initialLength &&& 0xFFFF0#20) ||| (d1 >>> 4).setWidth 20,
    usedLength := ((d1 &&& 0xF#8).setWidth 20 <<< 16) ||| (d2.setWidth 20 <<< 8) ||| d3.setWidth 20,
    printTemperature := d4 }
def page9 (d1 d2 d3 d4 : Byte) (r : Record) : Record :=
  { r with firstLayerTemperature := d1, dateCode := pair d2 d3, xorTrailer := d4 }

/-- The record after page 9 with its side effect on the record (R174, R175). -/
def afterPage9 (unlimited : Bool) (d1 d2 d3 d4 : Byte) (r : Record) : Record :=
  if unlimited then { page9 d1 d2 d3 d4 r with usedLength := 0#20 } else page9 d1 d2 d3 d4 r

/-- The next receiver state of the transition table (R115), for a byte that is not late. -/
def nextRx (s : State) (b : Byte) (st : RxState) : RxState :=
  match st with
  | .idle => if b = 0xAA#8 then .start else .idle
  | .start => if b = 0xBB#8 then .length else .idle
  | .length =>
    if s.pairHi then
      (let raw := (s.frm.length ||| (b.setWidth 16 <<< 8)).toNat
       if 5 ≤ raw ∧ raw ≤ 69 then .address else .idle)
    else .length
  | .address => if s.pairHi then .functionCode else .address
  | .functionCode => if s.pairHi then (if s.frm.length = 0#16 then .checksumSkip else .data) else .functionCode
  | .data => if s.rxIndex.toNat + 1 = s.frm.length.toNat then .checksumSkip else .data
  | .checksumSkip => .idle
  | .complete => .idle

/-- The byte is late (R101): more than 2000 ms after the first sync byte, modulo 2^32. -/
def late (s : State) (now : Time) : Prop := s.rxState ≠ .idle ∧ 2000 < (now - s.tStart).toNat

/-- A command that is no page write. -/
def NoPage : Instr → Prop
  | .writeData _ _ _ _ _ _ | .writeP6 _ _ _ _ _ | .writeP7 _ _ _ _ _ | .writeP8 _ _ _ _ _ | .writeP9 _ _ _ _ _ => False
  | _ => True

/-- Every register of the receiver, the configuration, the events to come and the ghost list of aborts (the model's,
notes/assumptions/19.md) are as before. -/
def SameReceiver (s t : State) : Prop :=
  t.cfg = s.cfg ∧ t.rxState = s.rxState ∧ t.pairHi = s.pairHi ∧ t.rxIndex = s.rxIndex ∧ t.tStart = s.tStart ∧
    t.frm = s.frm ∧ t.inputs = s.inputs ∧ t.aborts = s.aborts ∧
    ∀ i, t.frm.payload.read i = s.frm.payload.read i

/-- Two states that differ only in what the receiver's registers hold while it is Idle. -/
def SameWhileIdle (s t : State) : Prop :=
  s.rxState = .idle ∧ t.rxState = .idle ∧ s.cfg = t.cfg ∧ s.record = t.record ∧ s.inputs = t.inputs ∧
    s.outputs = t.outputs

/-- The field a host write writes, and its value as a host read gives it. -/
def fieldOf : HostWrite → RecordField
  | .magicNumber _ => .magicNumber | .cartridgeType _ => .cartridgeType | .material _ => .material
  | .red _ => .red | .green _ => .green | .blue _ => .blue
  | .initialLength _ => .initialLength | .usedLength _ => .usedLength
  | .printTemperature _ => .printTemperature | .firstLayerTemperature _ => .firstLayerTemperature
  | .dateCode _ => .dateCode | .xorTrailer _ => .xorTrailer
def valueOf : HostWrite → Nat
  | .magicNumber v => v.toNat | .cartridgeType v => v.toNat | .material v => v.toNat
  | .red v => v.toNat | .green v => v.toNat | .blue v => v.toNat
  | .initialLength v => v.toNat | .usedLength v => v.toNat
  | .printTemperature v => v.toNat | .firstLayerTemperature v => v.toNat
  | .dateCode v => v.toNat | .xorTrailer v => v.toNat

/-- The value of a record field as a number. -/
def fieldValue (r : Record) : RecordField → Nat
  | .id => r.id.toNat | .magicNumber => r.magicNumber.toNat | .cartridgeType => r.cartridgeType.toNat
  | .material => r.material.toNat | .red => r.red.toNat | .green => r.green.toNat | .blue => r.blue.toNat
  | .initialLength => r.initialLength.toNat | .usedLength => r.usedLength.toNat
  | .printTemperature => r.printTemperature.toNat | .firstLayerTemperature => r.firstLayerTemperature.toNat
  | .dateCode => r.dateCode.toNat | .xorTrailer => r.xorTrailer.toNat

/-- The outputs of a response, of a save. -/
def isResponse : Output → Bool
  | .response _ => true
  | _ => false
def isSave : Output → Bool
  | .save _ _ => true
  | _ => false

end Sys2Proof.Spec

open Sys2Proof Sys2Proof.Machine

/-! ### Reset and the invariant -/

/-- R38 (spec/10_state.md), for every configuration: the receiver Idle, its registers 0, the frame registers 0, the record at
the firmware defaults. The values but `rx_state` rest on the spec's decisions D17, D18 (notes/assumptions/4.md). -/
def Obligations.ResetGivesIdleReceiverAndFirmwareDefaults : Prop :=
  ∀ cfg : Config, let s := State.resetWith cfg
    s.cfg = cfg ∧ s.rxState = .idle ∧ s.pairHi = false ∧ s.rxIndex = 0#7 ∧ s.tStart = 0#32 ∧
    s.frm.length = 0#16 ∧ s.frm.address = 0#16 ∧ s.frm.functionCode = 0#16 ∧ (∀ i, s.frm.payload.read i = 0#8) ∧
    s.record.id = cfg.slotId ∧ s.record.magicNumber = cfg.magicDefault ∧ s.record.cartridgeType = 0#4 ∧
    s.record.material = 0#4 ∧ s.record.red = 0xFF#8 ∧ s.record.green = 0xFF#8 ∧ s.record.blue = 0xFF#8 ∧
    s.record.initialLength = 0#20 ∧ s.record.usedLength = 0#20 ∧ s.record.printTemperature = cfg.ptDefault ∧
    s.record.firstLayerTemperature = cfg.fltDefault ∧ s.record.dateCode = cfg.dateDefault ∧
    s.record.xorTrailer = cfg.xtDefault ∧ s.inputs = [] ∧ s.outputs = []

/-- The invariant holds after reset, for every configuration. -/
def Obligations.ResetSatisfiesInvariant : Prop :=
  Inv State.reset ∧ ∀ cfg : Config, Inv (State.resetWith cfg)

/-- Every step keeps the invariant (R21, R22, R23, R26, R30, R36, R51, R117): resting states only, each state's registers as
its rule leaves them, the payload buffer canonical (notes/assumptions/21.md) and inside 64 bytes, `rx_index` in 0..64,
`rec.id` equal to SLOT_ID. -/
def Obligations.EveryStepKeepsInvariant : Prop :=
  ∀ s t : State, Inv s → step s = .next t → Inv t

/-- R116 (a), (d), R51, R200: from a state that satisfies the invariant, a run of any length, over any events, answers a
next state: no write to the payload buffer has an index of 64 or more, and nothing stops the machine. With no event left
a step answers the same state, the model's choice (notes/assumptions/5.md). -/
def Obligations.NoRunFromASoundStateStops : Prop :=
  ∀ (n : Nat) (s : State), Inv s → ∃ t : State, Host.Core.run core n s = .next t ∧ Inv t

/-- The model's own fault (notes/assumptions/21.md): a payload byte at an index that is no cell of the buffer. -/
def Obligations.PayloadByteOutsideTheBufferFaults : Prop :=
  ∀ (s : State) (b : Byte) (now : Time) (rest : List Event),
    s.inputs = .rxByte b now :: rest → s.rxState = .data → (now - s.tStart).toNat ≤ 2000 → 64 ≤ s.rxIndex.toNat →
    step s = .fault .payloadIndexOutOfRange

/-! ### The receiver, state by state -/

/-- R102 with R27 (decision D6, notes/assumptions/9.md): Idle. -/
def Obligations.IdleStartsAFrameAtTheSyncByteOnly : Prop :=
  ∀ (s : State) (b : Byte) (now : Time) (rest : List Event),
    s.inputs = .rxByte b now :: rest → s.rxState = .idle →
    (b ≠ 0xAA#8 → step s = .next { s with inputs := rest }) ∧
    (b = 0xAA#8 → ∃ t : State, step s = .next t ∧
      t = { s with inputs := rest, rxState := .start, tStart := now, rxIndex := 0#7, frm := t.frm } ∧
      t.frm.length = 0#16 ∧ t.frm.address = 0#16 ∧ t.frm.functionCode = 0#16 ∧ ∀ i, t.frm.payload.read i = 0#8)

/-- R103, R201: Start. The byte is consumed in both cases, a second 0xAA too (91_not_in_source.md N28,
notes/assumptions/24.md). The entry in the ghost list `aborts` is the model's choice (notes/assumptions/19.md). -/
def Obligations.StartTakesTheSecondSyncByteOrAborts : Prop :=
  ∀ (s : State) (b : Byte) (now : Time) (rest : List Event),
    s.inputs = .rxByte b now :: rest → s.rxState = .start → (now - s.tStart).toNat ≤ 2000 →
    (b = 0xBB#8 → step s = .next { s with inputs := rest, pairHi := false, rxState := .length }) ∧
    (b ≠ 0xBB#8 → step s = .next { s with inputs := rest, rxState := .idle, aborts := s.aborts ++ [.badSecondSync] })

/-- R105 (decision D26, notes/assumptions/15.md): Length, low byte. -/
def Obligations.LengthLowByteAssigns : Prop :=
  ∀ (s : State) (b : Byte) (now : Time) (rest : List Event),
    s.inputs = .rxByte b now :: rest → s.rxState = .length → (now - s.tStart).toNat ≤ 2000 → s.pairHi = false →
    step s = .next { s with inputs := rest, pairHi := true, frm := { s.frm with length := b.setWidth 16 } }

/-- R106 (decision D7, notes/assumptions/10.md): Length, high byte, accepted: `5 <= raw <= 69` and the length is `raw - 5`.
-/
def Obligations.AcceptedLengthIsRawMinusFive : Prop :=
  ∀ (s : State) (b : Byte) (now : Time) (rest : List Event) (raw : Half),
    s.inputs = .rxByte b now :: rest → s.rxState = .length → (now - s.tStart).toNat ≤ 2000 → s.pairHi = true →
    raw = s.frm.length ||| (b.setWidth 16 <<< 8) → 5 ≤ raw.toNat → raw.toNat ≤ 69 →
    ∃ n : Half, n.toNat + 5 = raw.toNat ∧
      step s = .next { s with inputs := rest, pairHi := false, frm := { s.frm with length := n }, rxState := .address }

/-- R202, R106: the assembled length field is below 5; `frm.length` keeps the raw value and `pair_hi` is 0. The entry in the
ghost list `aborts` is the model's choice (notes/assumptions/19.md). -/
def Obligations.LengthBelowFiveAborts : Prop :=
  ∀ (s : State) (b : Byte) (now : Time) (rest : List Event) (raw : Half),
    s.inputs = .rxByte b now :: rest → s.rxState = .length → (now - s.tStart).toNat ≤ 2000 → s.pairHi = true →
    raw = s.frm.length ||| (b.setWidth 16 <<< 8) → raw.toNat < 5 →
    step s = .next { s with
      inputs := rest, pairHi := false, frm := { s.frm with length := raw }, rxState := .idle,
      aborts := s.aborts ++ [.lengthUnderflow] }

/-- R203, R106 (decision D7, notes/assumptions/10.md): the payload length would exceed 64; the abort stands at the high
length byte, before any payload byte is taken. The entry in the ghost list `aborts` is the model's choice
(notes/assumptions/19.md). -/
def Obligations.LengthOverCapacityAborts : Prop :=
  ∀ (s : State) (b : Byte) (now : Time) (rest : List Event) (raw : Half),
    s.inputs = .rxByte b now :: rest → s.rxState = .length → (now - s.tStart).toNat ≤ 2000 → s.pairHi = true →
    raw = s.frm.length ||| (b.setWidth 16 <<< 8) → 64 < raw.toNat - 5 →
    step s = .next { s with
      inputs := rest, pairHi := false, frm := { s.frm with length := raw }, rxState := .idle,
      aborts := s.aborts ++ [.lengthOverCapacity] }

/-- R107: Address, low byte then high byte. -/
def Obligations.AddressAssemblesLowByteFirst : Prop :=
  ∀ (s : State) (b : Byte) (now : Time) (rest : List Event),
    s.inputs = .rxByte b now :: rest → s.rxState = .address → (now - s.tStart).toNat ≤ 2000 →
    (s.pairHi = false →
      step s = .next { s with inputs := rest, pairHi := true, frm := { s.frm with address := b.setWidth 16 } }) ∧
    (s.pairHi = true →
      step s = .next { s with
        inputs := rest, pairHi := false, rxState := .functionCode,
        frm := { s.frm with address := s.frm.address ||| (b.setWidth 16 <<< 8) } })

/-- R108: FunctionCode, low byte then high byte; after the high byte `rx_index` is 0 and an empty payload skips Data. -/
def Obligations.FunctionCodeAssemblesAndBranchesOnLength : Prop :=
  ∀ (s : State) (b : Byte) (now : Time) (rest : List Event),
    s.inputs = .rxByte b now :: rest → s.rxState = .functionCode → (now - s.tStart).toNat ≤ 2000 →
    (s.pairHi = false →
      step s = .next { s with inputs := rest, pairHi := true, frm := { s.frm with functionCode := b.setWidth 16 } }) ∧
    (s.pairHi = true →
      step s = .next { s with
        inputs := rest, pairHi := false, rxIndex := 0#7,
        rxState := if s.frm.length = 0#16 then .checksumSkip else .data,
        frm := { s.frm with functionCode := s.frm.functionCode ||| (b.setWidth 16 <<< 8) } })

/-- R71, R104, R12 (1): a low byte that assigns and a high byte that is or-ed in give `lo + 256 * hi`, here as the Length,
Address and FunctionCode actions compute it. -/
def Obligations.PairAssemblyIsLittleEndian : Prop :=
  ∀ l h : Byte, ((l.setWidth 16 : Half) ||| (h.setWidth 16 <<< 8)).toNat = l.toNat + 256 * h.toNat ∧
    (pairHigh (pairLow l) h).toNat = l.toNat + 256 * h.toNat ∧ (pairLE l h).toNat = l.toNat + 256 * h.toNat

/-- R110: Data. The byte is stored at `rx_index`, every other payload byte keeps its value, `rx_index` counts it, and
Data is left when the count reaches the length. The buffer is in canonical form (notes/assumptions/21.md), as the
invariant says it always is. -/
def Obligations.DataStoresOneByteAtTheIndex : Prop :=
  ∀ (s : State) (b : Byte) (now : Time) (rest : List Event),
    s.inputs = .rxByte b now :: rest → s.rxState = .data → (now - s.tStart).toNat ≤ 2000 → s.rxIndex.toNat < 64 →
    s.frm.payload.wf →
    ∃ t : State, step s = .next t ∧
      t.frm.payload.read s.rxIndex.toNat = b ∧
      (∀ i, i ≠ s.rxIndex.toNat → t.frm.payload.read i = s.frm.payload.read i) ∧
      t.rxIndex.toNat = s.rxIndex.toNat + 1 ∧
      t.rxState = (if s.rxIndex.toNat + 1 = s.frm.length.toNat then .checksumSkip else .data) ∧
      t = { s with
        inputs := rest, rxIndex := t.rxIndex, rxState := t.rxState, frm := { s.frm with payload := t.frm.payload } }

/-- R101, R102 (decisions D3, D4, D5, notes/assumptions/7.md): more than 2000 ms after the first sync byte the frame is
aborted and the same byte is handled in Idle, so it starts a frame if it is 0xAA, with cleared registers (decision D6,
notes/assumptions/9.md), and is dropped otherwise. The entry in the ghost list `aborts` is the model's choice
(notes/assumptions/19.md). -/
def Obligations.LateByteAbortsAndIsHandledInIdle : Prop :=
  ∀ (s : State) (b : Byte) (now : Time) (rest : List Event),
    s.inputs = .rxByte b now :: rest → s.rxState ≠ .idle → 2000 < (now - s.tStart).toNat →
    step s = .next
      (if b = 0xAA#8 then
        { s with
          inputs := rest, aborts := s.aborts ++ [.rxTimeout], rxState := .start, tStart := now, rxIndex := 0#7,
          frm := { length := 0#16, address := 0#16, functionCode := 0#16, payload := [] } }
      else { s with inputs := rest, aborts := s.aborts ++ [.rxTimeout], rxState := .idle })

/-- R115: every change of `rx_state` by a byte is one of the transition table, from every state. When a byte is late is
R101's (decisions D3, D4, D5, notes/assumptions/7.md). -/
def Obligations.ByteEventsFollowTheTransitionTable : Prop :=
  ∀ (s t : State) (b : Byte) (now : Time) (rest : List Event),
    s.inputs = .rxByte b now :: rest → step s = .next t →
    (Spec.late s now → t.rxState = Spec.nextRx s b .idle) ∧
    (¬ Spec.late s now → t.rxState = Spec.nextRx s b s.rxState)

/-- R116 (b), (c), (e): a byte changes the record or emits anything only as the checksum byte of a frame, in time
(decisions D3, D4, notes/assumptions/7.md; `complete` is no resting state). -/
def Obligations.OnlyTheChecksumByteInTimeTouchesRecordOrOutputs : Prop :=
  ∀ (s t : State) (b : Byte) (now : Time) (rest : List Event),
    s.inputs = .rxByte b now :: rest → step s = .next t → t.record ≠ s.record ∨ t.outputs ≠ s.outputs →
    (s.rxState = .checksumSkip ∨ s.rxState = .complete) ∧ (now - s.tStart).toNat ≤ 2000

/-- R28, R39, R117 (decision D8, notes/assumptions/9.md): what the receiver's registers hold while Idle, a stale
`pair_hi` among it, changes no output and no record field in any run from there. With no event left a step answers the
same state, the model's choice (notes/assumptions/5.md). -/
def Obligations.IdleRegistersAreUnobservable : Prop :=
  ∀ (n : Nat) (s s' : State), Spec.SameWhileIdle s s' →
    ∃ t t' : State, Host.Core.run core n s = .next t ∧ Host.Core.run core n s' = .next t' ∧
      t.outputs = t'.outputs ∧ t.record = t'.record ∧ t.rxState = t'.rxState

/-! ### A frame and the instruction it is -/

/-- R111, R112: when the frame registers hold the instruction `i` and the checksum byte, whatever it is, comes in time, the
step is `exec i` at the state with that byte consumed and the receiver in Complete, followed by the return to Idle. -/
def Obligations.AStepRunsTheDecodedInstruction : Prop :=
  ∀ (s : State) (b : Byte) (now : Time) (rest : List Event) (i : Instr),
    s.inputs = .rxByte b now :: rest → s.rxState = .checksumSkip → (now - s.tStart).toNat ≤ 2000 →
    decodeFrame s.cfg s.frm = i →
    ∃ t : State, exec i { s with inputs := rest, rxState := .complete } = .next t ∧
      step s = .next { t with rxState := .idle }

/-- The whole receiver against the decoder of bytes (R70, R100 to R112; decisions D1, D3, D6, notes/assumptions/7.md,
8.md, 9.md; the decoder is the model's, notes/assumptions/30.md): the bytes of one complete frame, delivered to an Idle
receiver with no byte later than 2000 ms after the first, end in exactly the execution of the instruction they decode
to, at a state with the same configuration, record, outputs and ghost list of aborts (the model's,
notes/assumptions/19.md), and with the receiver Idle again. -/
def Obligations.ADeliveredFrameRunsItsInstruction : Prop :=
  ∀ (s : State) (i : Instr) (b0 : Byte) (t0 : Time) (later : List (Byte × Time)) (rest : List Event),
    s.rxState = .idle →
    s.inputs = .rxByte b0 t0 :: (later.map fun p => Event.rxByte p.1 p.2) ++ rest →
    decode s.cfg (b0 :: later.map Prod.fst) = .ok (i, []) →
    (∀ p ∈ later, (p.2 - t0).toNat ≤ 2000) →
    ∃ u t : State,
      u.cfg = s.cfg ∧ u.record = s.record ∧ u.outputs = s.outputs ∧ u.aborts = s.aborts ∧ u.inputs = rest ∧
      u.tStart = t0 ∧ decodeFrame u.cfg u.frm = i ∧ exec i u = .next t ∧
      Host.Core.run core (later.length + 1) s = .next { t with rxState := .idle }

/-- R131 (decision D10, notes/assumptions/11.md): a response the step emits carries the address and the function code of the
frame it answers. -/
def Obligations.ResponseEchoesAddressAndFunctionCode : Prop :=
  ∀ (s t : State) (b : Byte) (now : Time) (rest : List Event) (new : List Output) (bytes : List Byte),
    s.inputs = .rxByte b now :: rest → step s = .next t → t.outputs = s.outputs ++ new → .response bytes ∈ new →
    ∃ p : List Byte, bytes = Spec.responseFrame s.frm.address s.frm.functionCode p

/-! ### The commands: what each does, for every state -/

/-- R144 with R133 and R138: INITPORT and HALT answer with the ten bytes of empty success and change nothing else. -/
def Obligations.InitPortAndHaltAnswerEmptySuccess : Prop :=
  ∀ (a : Half) (s : State),
    exec (.initPort a) s = .next { s with outputs := s.outputs ++ [.response (Spec.emptySuccess a s.cfg.fcInitPort)] } ∧
    exec (.halt a) s = .next { s with outputs := s.outputs ++ [.response (Spec.emptySuccess a s.cfg.fcHalt)] }

/-- R134: SETANTENNA has no effect, no response and no event. -/
def Obligations.SetAntennaDoesNothing : Prop :=
  ∀ (a : Half) (s : State), exec (.setAntenna a) s = .next s

/-- R135, R137: REQUEST answers 44 00 and SELECT answers 04, whatever came before. -/
def Obligations.RequestAndSelectAnswerFixedPayloads : Prop :=
  ∀ (a : Half) (s : State),
    exec (.request a) s =
      .next { s with outputs := s.outputs ++ [.response (Spec.responseFrame a s.cfg.fcRequest [0x44#8, 0x00#8])] } ∧
    exec (.select a) s = .next { s with outputs := s.outputs ++ [.response (Spec.responseFrame a s.cfg.fcSelect [0x04#8])] }

/-- R136: ANTICOLL answers 88 04 and the record id, high byte first, an 0xAA among them escaped. -/
def Obligations.AntiCollisionAnswersTheIdBigEndian : Prop :=
  ∀ (a : Half) (s : State),
    exec (.antiColl a) s =
      .next { s with
        outputs := s.outputs ++
          [.response (Spec.responseFrame a s.cfg.fcAntiColl [0x88#8, 0x04#8, Spec.hi s.record.id, Spec.lo s.record.id])] }

/-- R139 (decisions D15, D16, notes/assumptions/12.md, 16.md): READDATA answers the 16 bytes of the record image. -/
def Obligations.ReadDataAnswersTheRecordImage : Prop :=
  ∀ (a : Half) (s : State),
    exec (.readData a) s =
      .next { s with outputs := s.outputs ++ [.response (Spec.responseFrame a s.cfg.fcRead (Spec.image s.record))] }

/-- R141 (decision D20, notes/assumptions/25.md): an unrecognized code emits UnknownCmd with that code, no response, and
changes nothing. -/
def Obligations.UnknownCodeOnlyEmitsItsEvent : Prop :=
  ∀ (a fc : Half) (s : State), exec (.unknown a fc) s = .next { s with outputs := s.outputs ++ [.unknownCmd fc] }

/-- R171: page 6, with the empty success of R140 and R144. -/
def Obligations.Page6SetsMagicTypeMaterialRed : Prop :=
  ∀ (a : Half) (d1 d2 d3 d4 : Byte) (s : State),
    exec (.writeP6 a d1 d2 d3 d4) s =
      .next { s with
        record := Spec.page6 d1 d2 d3 d4 s.record,
        outputs := s.outputs ++ [.response (Spec.emptySuccess a s.cfg.fcWrite)] }

/-- R172, R182 (decision D11, notes/assumptions/13.md): page 7 keeps the low nibble of `initialLength`, and empty
success is answered (R140, R144). -/
def Obligations.Page7SetsGreenBlueAndHighLength : Prop :=
  ∀ (a : Half) (d1 d2 d3 d4 : Byte) (s : State),
    exec (.writeP7 a d1 d2 d3 d4) s =
      .next { s with
        record := Spec.page7 d1 d2 d3 d4 s.record,
        outputs := s.outputs ++ [.response (Spec.emptySuccess a s.cfg.fcWrite)] }

/-- R173, R182 (decision D11, notes/assumptions/13.md): page 8 keeps bits 19..4 of `initialLength` and replaces
`usedLength`, and empty success is answered (R140, R144). -/
def Obligations.Page8CompletesLengthsAndTemperature : Prop :=
  ∀ (a : Half) (d1 d2 d3 d4 : Byte) (s : State),
    exec (.writeP8 a d1 d2 d3 d4) s =
      .next { s with
        record := Spec.page8 d1 d2 d3 d4 s.record,
        outputs := s.outputs ++ [.response (Spec.emptySuccess a s.cfg.fcWrite)] }

/-- R174, R175, R145 (decisions D27, D28, notes/assumptions/26.md, 6.md): page 9 sets its fields, clears `usedLength` in
unlimited-filament mode, saves the record as it then stands, and answers empty success (R140, R144), in this order. That
the save carries the store offset beside the record (R42, decision D19) is the choice of notes/assumptions/17.md. -/
def Obligations.Page9SetsFieldsThenSavesThenAnswers : Prop :=
  ∀ (a : Half) (d1 d2 d3 d4 : Byte) (s : State),
    exec (.writeP9 a d1 d2 d3 d4) s =
      .next { s with
        record := Spec.afterPage9 s.cfg.unlimitedFilament d1 d2 d3 d4 s.record,
        outputs := s.outputs ++
          [.save s.cfg.storeOffset (Spec.afterPage9 s.cfg.unlimitedFilament d1 d2 d3 d4 s.record),
            .response (Spec.emptySuccess a s.cfg.fcWrite)] }

/-- R177 (decision D12, notes/assumptions/14.md): any other page number changes no field, saves nothing, and is answered
empty success (R140, R144). -/
def Obligations.OtherPagesChangeNothingAndAreAnswered : Prop :=
  ∀ (a : Half) (page : Byte) (s : State),
    exec (.writeOther a page) s = .next { s with outputs := s.outputs ++ [.response (Spec.emptySuccess a s.cfg.fcWrite)] }

/-- R140, R170, R82 (decision D12, notes/assumptions/14.md, 20.md): WRITEDATA, for every page number, answers a next state,
the one of the page its number selects. -/
def Obligations.WriteDataIsThePageItsNumberSelects : Prop :=
  ∀ (a : Half) (page d1 d2 d3 d4 : Byte) (s : State),
    (∃ t : State, exec (.writeData a page d1 d2 d3 d4) s = .next t) ∧
    exec (.writeData a page d1 d2 d3 d4) s =
      (if page = 6#8 then exec (.writeP6 a d1 d2 d3 d4) s
       else if page = 7#8 then exec (.writeP7 a d1 d2 d3 d4) s
       else if page = 8#8 then exec (.writeP8 a d1 d2 d3 d4) s
       else if page = 9#8 then exec (.writeP9 a d1 d2 d3 d4) s
       else exec (.writeOther a page) s)

/-- R142, R132, R176 (decisions D12, D16, notes/assumptions/12.md, 14.md, 20.md): the declared length is read by no
command: under two lengths the same fields and the same buffer give the same execution. -/
def Obligations.PayloadLengthIsReadByNoCommand : Prop :=
  ∀ (s : State) (a fc : Half) (n m : Nat) (pl : Nat → Byte),
    exec (decodeCommand s.cfg a fc n pl) s = exec (decodeCommand s.cfg a fc m pl) s

/-! ### Frames: what a command leaves unchanged -/

/-- The frame of every command: no register of the receiver changes, no byte of the payload buffer, not the record's id, and
of the outputs so far nothing is taken back; a command that is no page write leaves the whole record unchanged. -/
def Obligations.CommandsKeepReceiverBufferAndUnlessPagesRecord : Prop :=
  ∀ (i : Instr) (s t : State), exec i s = .next t →
    Spec.SameReceiver s t ∧ t.record.id = s.record.id ∧ (∃ new : List Output, t.outputs = s.outputs ++ new) ∧
    (Spec.NoPage i → t.record = s.record)

/-- R170, R52 (decision D11, notes/assumptions/13.md): a page write is a store into the image: page p puts its data at image
bytes 4*(p-6)+1 to 4*(p-6)+4, byte 16 apart, and every other byte of 1 to 15 reads as before. For page 9 this is the write
without unlimited-filament mode. -/
def Obligations.PageWriteStoresItsFourImageBytes : Prop :=
  ∀ (a : Half) (p : Nat) (d : Vector Byte 4) (s t : State), 6 ≤ p → p ≤ 9 →
    (p = 9 → s.cfg.unlimitedFilament = false) →
    exec (.writeData a (BitVec.ofNat 8 p) d[0] d[1] d[2] d[3]) s = .next t →
    ∀ (k : Nat) (hk : k < 15),
      t.record.encode[k]'(Nat.lt_succ_of_lt hk) =
        (if h : 4 * (p - 6) ≤ k ∧ k < 4 * (p - 6) + 4 then d[k - 4 * (p - 6)]
          else s.record.encode[k]'(Nat.lt_succ_of_lt hk))

/-- R42, R175, R145 (decisions D19, D28, notes/assumptions/6.md, 17.md): what one step emits: at most one response and at
most one save, and a save only in a page-9 write, right before its response. -/
def Obligations.OneStepEmitsAtMostOneResponseAndOneSave : Prop :=
  ∀ s t : State, step s = .next t →
    ∃ new : List Output, t.outputs = s.outputs ++ new ∧ new.length ≤ 2 ∧
      (new.filter Spec.isResponse).length ≤ 1 ∧ (new.filter Spec.isSave).length ≤ 1 ∧
      (∀ o r, Output.save o r ∈ new →
        o = s.cfg.storeOffset ∧ r = t.record ∧ s.frm.functionCode = s.cfg.fcWrite ∧ s.frm.payload.read 0 = 9#8 ∧
        ∃ bytes, new = [.save o r, .response bytes])

/-- R30, R20 (the configuration as a field is the model's, notes/assumptions/1.md): no event changes the configuration, and
`rec.id` stays SLOT_ID. -/
def Obligations.ConfigurationAndIdNeverChange : Prop :=
  ∀ s t : State, step s = .next t →
    t.cfg = s.cfg ∧ (s.record.id = s.cfg.slotId → t.record.id = s.cfg.slotId)

/-! ### The response builder -/

/-- R186, R187, R188, R189, R191: the loop of the builder gives the closed form: header, length of the unescaped payload
plus 6, address, function code, status 0, the payload with 0x00 before each 0xAA, and the exclusive or of the bytes from the
address on. For payloads above 64 bytes (`pktLen` modulo 2^16) this is the model's choice (decision D22,
notes/assumptions/23.md). -/
def Obligations.BuilderGivesTheResponseFrame : Prop :=
  ∀ (a fc : Half) (p : List Byte), build a fc p = Spec.responseFrame a fc p

/-- R190, R195: the length is `n + e + 10`, between 10 and 138; `pktLen` does not count the `e` escapes. -/
def Obligations.ResponseIsLongerThanItsLengthFieldByTheEscapes : Prop :=
  ∀ (a fc : Half) (p : List Byte), p.length ≤ 64 →
    (build a fc p).length = p.length + p.count 0xAA#8 + 10 ∧ 10 ≤ (build a fc p).length ∧ (build a fc p).length ≤ 138 ∧
    ∃ tail : List Byte,
      build a fc p = 0xAA#8 :: 0xBB#8 :: BitVec.ofNat 8 (p.length + 6) :: 0x00#8 :: tail ∧
      tail.length = p.length + 6 + p.count 0xAA#8

/-- R78: the last byte is the exclusive or of all bytes from position 5 to the one before it, and the same whether the
inserted bytes are counted (the first equation) or not (the second). -/
def Obligations.ResponseChecksumFoldsPositionsFiveOn : Prop :=
  ∀ (a fc : Half) (p : List Byte),
    (build a fc p).getLast? = some (Spec.xorAll (((build a fc p).drop 4).dropLast)) ∧
    (build a fc p).getLast? =
      some (Spec.xorAll ([Spec.lo a, Spec.hi a, Spec.lo fc, Spec.hi fc, 0x00#8] ++ p))

/-- R196 (d): for a fixed payload length the builder is injective. -/
def Obligations.BuilderIsInjectiveForALength : Prop :=
  ∀ (a a' fc fc' : Half) (p p' : List Byte), p.length ≤ 64 → p.length = p'.length → build a fc p = build a' fc' p' →
    a = a' ∧ fc = fc' ∧ p = p'

/-! ### The record codec -/

/-- R150: the image, byte for byte. -/
def Obligations.EncodeGivesTheImageLayout : Prop :=
  ∀ r : Record, r.encode.toList = Spec.image r

/-- R157 (decision D31, notes/assumptions/16.md): decoding an encoded record gives back its eleven image fields, keeps the
receiving record's id, and stores the computed byte 16 as the trailer. -/
def Obligations.DecodeOfEncodeGivesTheRecordBack : Prop :=
  ∀ r q : Record, Record.decode q r.encode = { r with id := q.id, xorTrailer := r.encode[15] }

/-- R158: encoding a decoded image gives back bytes 1 to 15 and the exclusive or of them. -/
def Obligations.EncodeOfDecodeGivesTheImageBack : Prop :=
  ∀ (q : Record) (m : Image),
    (∀ (k : Nat) (hk : k < 15),
      (Record.decode q m).encode[k]'(Nat.lt_succ_of_lt hk) = m[k]'(Nat.lt_succ_of_lt hk)) ∧
    (Record.decode q m).encode[15] = Spec.xorAll (m.toList.take 15)

/-- R153 (a), (b), (c): the image folds to 0, does not depend on id and trailer, and fixes the eleven fields it carries. -/
def Obligations.ImageFoldsToZeroAndFixesItsFields : Prop :=
  ∀ r q : Record, Spec.xorAll r.encode.toList = 0#8 ∧
    (r.encode = q.encode ↔ { r with id := 0#16, xorTrailer := 0#8 } = { q with id := 0#16, xorTrailer := 0#8 })

/-- R180, R156 (decisions D11, D31, notes/assumptions/13.md, 16.md): the four page writes, in any order, are the decoder of
a whole image. -/
def Obligations.FourPagesInAnyOrderAreTheDecoder : Prop :=
  ∀ (m : Image) (r : Record) (ps : List (Record → Record)),
    ps.Perm [Record.page6 m[0] m[1] m[2] m[3], Record.page7 m[4] m[5] m[6] m[7],
      Record.page8 m[8] m[9] m[10] m[11], Record.page9 m[12] m[13] m[14] m[15]] →
    ps.foldl (fun q f => f q) r = Record.decode r m

/-- R179: pages 6, 7, 8, 9 with the bytes of an image: from every record the image fields are those of the image,
`xorTrailer` is its byte 16, `usedLength` is 0 instead in unlimited-filament mode, and one save has been emitted, at page 9:
pages 6, 7 and 8 emit none. READDATA then answers bytes 1 to 15 of that image (of the record with `usedLength` 0 in that
mode) with a right byte 16. -/
def Obligations.FullWriteThenReadReturnsTheImage : Prop :=
  ∀ (a : Half) (m : Image) (s s6 s7 s8 s9 : State),
    exec (.writeP6 a m[0] m[1] m[2] m[3]) s = .next s6 →
    exec (.writeP7 a m[4] m[5] m[6] m[7]) s6 = .next s7 →
    exec (.writeP8 a m[8] m[9] m[10] m[11]) s7 = .next s8 →
    exec (.writeP9 a m[12] m[13] m[14] m[15]) s8 = .next s9 →
    s9.record =
      (if s.cfg.unlimitedFilament then { Record.decode s.record m with usedLength := 0#20 } else Record.decode s.record m) ∧
    s9.record.xorTrailer = m[15] ∧ s9.record.id = s.record.id ∧
    s8.outputs.filter Spec.isSave = s.outputs.filter Spec.isSave ∧
    (s9.outputs.filter Spec.isSave).length = (s8.outputs.filter Spec.isSave).length + 1 ∧
    ∃ t : State, exec (.readData a) s9 = .next t ∧
      (s.cfg.unlimitedFilament = false →
        t.outputs = s9.outputs ++
          [.response (Spec.responseFrame a s.cfg.fcRead (m.toList.take 15 ++ [Spec.xorAll (m.toList.take 15)]))]) ∧
      (s.cfg.unlimitedFilament = true →
        t.outputs = s9.outputs ++
          [.response (Spec.responseFrame a s.cfg.fcRead
            (Spec.image { Record.decode s.record m with usedLength := 0#20 }))])

/-! ### Decoding and encoding -/

/-- R70, R82 (decision D9; the decoder, the term `writeData` and the empty payloads the encoder gives are the model's,
notes/assumptions/30.md, 20.md, 12.md): decoding the frame of a well-formed instruction gives it back, with the bytes
after the frame, for every configuration with pairwise distinct codes. -/
def Obligations.DecodeOfEncodeGivesTheInstructionBack : Prop :=
  ∀ (cfg : Config) (i : Instr) (rest : List Byte), cfg.Distinct → i.wf cfg = true →
    decode cfg (encode cfg i ++ rest) = .ok (i, rest)

/-- R72, R74, R84, R132 (decisions D12, D16, notes/assumptions/14.md, 12.md; the decoder is the model's,
notes/assumptions/20.md, 30.md): every frame with at most 64 payload bytes decodes, whatever its checksum byte, and
takes exactly its `n + 9` bytes; payload positions past its length read 0 (R176). -/
def Obligations.EveryLegalFrameDecodesWhateverItsChecksum : Prop :=
  ∀ (cfg : Config) (a fc : Half) (p rest : List Byte) (checksum : Byte), p.length ≤ 64 →
    decode cfg (frameBytes a fc p checksum ++ rest) =
      .ok (decodeCommand cfg a fc p.length (fun i => p.getD i 0#8), rest)

/-- R83: the decoder refuses the illegal frames by name (the decoder is the model's, notes/assumptions/30.md). -/
def Obligations.IllegalFramesAreRejectedByName : Prop :=
  ∀ (cfg : Config) (b0 b1 l h : Byte) (t : List Byte),
    (b0 ≠ 0xAA#8 → decode cfg (b0 :: t) = .error .badFirstSync) ∧
    (b1 ≠ 0xBB#8 → decode cfg (0xAA#8 :: b1 :: t) = .error .badSecondSync) ∧
    (l.toNat + 256 * h.toNat < 5 → decode cfg (0xAA#8 :: 0xBB#8 :: l :: h :: t) = .error .lengthUnderflow) ∧
    (69 < l.toNat + 256 * h.toNat → decode cfg (0xAA#8 :: 0xBB#8 :: l :: h :: t) = .error .lengthOverCapacity)

/-- R82 (decisions D9, D12, notes/assumptions/14.md, 20.md): under pairwise distinct codes each code selects its command,
whatever the order of the tests, and a code that is none of the eight selects UNKNOWN. -/
def Obligations.FunctionCodeSelectsTheCommand : Prop :=
  ∀ (cfg : Config) (a : Half) (n : Nat) (pl : Nat → Byte), cfg.Distinct →
    decodeCommand cfg a cfg.fcInitPort n pl = .initPort a ∧ decodeCommand cfg a cfg.fcSetAntenna n pl = .setAntenna a ∧
    decodeCommand cfg a cfg.fcRequest n pl = .request a ∧ decodeCommand cfg a cfg.fcAntiColl n pl = .antiColl a ∧
    decodeCommand cfg a cfg.fcSelect n pl = .select a ∧ decodeCommand cfg a cfg.fcHalt n pl = .halt a ∧
    decodeCommand cfg a cfg.fcRead n pl = .readData a ∧
    decodeCommand cfg a cfg.fcWrite (n + 1) pl =
      (if pl 0 = 6#8 then .writeP6 a (pl 1) (pl 2) (pl 3) (pl 4)
       else if pl 0 = 7#8 then .writeP7 a (pl 1) (pl 2) (pl 3) (pl 4)
       else if pl 0 = 8#8 then .writeP8 a (pl 1) (pl 2) (pl 3) (pl 4)
       else if pl 0 = 9#8 then .writeP9 a (pl 1) (pl 2) (pl 3) (pl 4)
       else .writeOther a (pl 0)) ∧
    ∀ fc : Half, fc ∉ cfg.codes → decodeCommand cfg a fc n pl = .unknown a fc

/-- Five frames of 95_test_vectors.md: DS3, DS6, DS8 (R135, R138, R140), RX12 (R141) and RX20 (an address other than 0, low
byte first), under the spec's example configuration E0 (PRESUMED, notes/assumptions/2.md). -/
def Obligations.SampleFramesDecode : Prop :=
  decode Config.example0 [0xAA#8, 0xBB#8, 0x06#8, 0x00#8, 0x00#8, 0x00#8, 0x01#8, 0x02#8, 0x52#8, 0x51#8] =
    .ok (.request 0#16, []) ∧
  decode Config.example0 [0xAA#8, 0xBB#8, 0x05#8, 0x00#8, 0x00#8, 0x00#8, 0x04#8, 0x02#8, 0x06#8] = .ok (.halt 0#16, []) ∧
  decode Config.example0
      [0xAA#8, 0xBB#8, 0x0A#8, 0x00#8, 0x00#8, 0x00#8, 0x13#8, 0x02#8, 0x06#8, 0x5A#8, 0x4D#8, 0x01#8, 0x10#8, 0x11#8] =
    .ok (.writeP6 0#16 0x5A#8 0x4D#8 0x01#8 0x10#8, []) ∧
  decode Config.example0 [0xAA#8, 0xBB#8, 0x08#8, 0x00#8, 0x01#8, 0x00#8, 0x77#8, 0x77#8, 0xAA#8, 0xBB#8, 0x05#8, 0x15#8] =
    .ok (.unknown 1#16 0x7777#16, []) ∧
  decode Config.example0 [0xAA#8, 0xBB#8, 0x05#8, 0x00#8, 0x34#8, 0x12#8, 0x01#8, 0x02#8, 0x25#8] =
    .ok (.request 0x1234#16, [])

/-! ### The host and reset -/

/-- R44 (decision D23, notes/assumptions/17.md): a host write sets one field to its value and leaves every other field, and
everything else, as it was. -/
def Obligations.HostWriteSetsOneField : Prop :=
  ∀ (s : State) (w : HostWrite) (rest : List Event), s.inputs = .hostWrite w :: rest →
    ∃ t : State, step s = .next t ∧ t = { s with inputs := rest, record := t.record } ∧
      Spec.fieldValue t.record (Spec.fieldOf w) = Spec.valueOf w ∧
      ∀ f : RecordField, f ≠ Spec.fieldOf w → Spec.fieldValue t.record f = Spec.fieldValue s.record f

/-- R44 (the output is the model's form of it, notes/assumptions/17.md): a host read hands out the field's value and changes
nothing. -/
def Obligations.HostReadHandsOutTheField : Prop :=
  ∀ (s : State) (f : RecordField) (rest : List Event), s.inputs = .hostRead f :: rest →
    ∃ v : Len20, v.toNat = Spec.fieldValue s.record f ∧
      step s = .next { s with inputs := rest, outputs := s.outputs ++ [.hostData f v] }

/-- R45 (decision D19, notes/assumptions/17.md): a host load replaces every field but the id. -/
def Obligations.HostLoadReplacesAllButTheId : Prop :=
  ∀ (s : State) (r : Record) (rest : List Event), s.inputs = .hostLoad r :: rest →
    step s = .next { s with inputs := rest, record := { r with id := s.record.id } }

/-- R230, R231 (decision D32, notes/assumptions/18.md): a reset, at any moment, discards a partial frame without a response
and puts the record at its defaults. That the outputs and the ghost list of aborts so far stay is the model's choice
(notes/assumptions/19.md). -/
def Obligations.ResetEventRestoresConstruction : Prop :=
  ∀ (s : State) (rest : List Event), s.inputs = .reset :: rest →
    step s = .next { State.resetWith s.cfg with inputs := rest, outputs := s.outputs, aborts := s.aborts }
end

