-- ==== Sys2Proof/Laws/Codec.lean ====
section
/-! SUPPORT. The record image read by its bytes: bytes 1 to 15 are the body, byte 16 its exclusive or. -/

namespace Sys2Proof.Machine

theorem Record.encode_get (r : Record) (k : Nat) (hk : k < 15) :
    r.encode[k]'(Nat.lt_succ_of_lt hk) = r.body[k] :=
  Vector.getElem_push_lt hk

theorem Record.encode_last (r : Record) : r.encode[15] = xorFold r.body.toList := Vector.getElem_push_eq

theorem Record.encode_toList (r : Record) : r.encode.toList = r.body.toList ++ [xorFold r.body.toList] := by
  simp [Record.encode, Vector.toList, Vector.toArray_push]

/-- The image reads neither `id` nor `xorTrailer` (R153 (c)). -/
theorem Record.encode_ignores (r : Record) (i : Half) (x : Byte) :
    Record.encode { r with id := i, xorTrailer := x } = r.encode := rfl

/-! The pages leave `id` alone, and each leaves the fields of the others alone. -/

@[simp] theorem Record.page6_id (d1 d2 d3 d4 : Byte) (r : Record) : (r.page6 d1 d2 d3 d4).id = r.id := rfl
@[simp] theorem Record.page7_id (d1 d2 d3 d4 : Byte) (r : Record) : (r.page7 d1 d2 d3 d4).id = r.id := rfl
@[simp] theorem Record.page8_id (d1 d2 d3 d4 : Byte) (r : Record) : (r.page8 d1 d2 d3 d4).id = r.id := rfl
@[simp] theorem Record.page9_id (d1 d2 d3 d4 : Byte) (r : Record) : (r.page9 d1 d2 d3 d4).id = r.id := rfl

end Sys2Proof.Machine
end

