-- ==== Sys2Proof/Laws/Decode.lean ====
section
/-! SUPPORT. What the command map can answer, said once: a property of instructions holds of the decoded command if it holds
of each command the map may answer, under the test that selects it. And the address and function code a decoded command
carries are those of its frame. -/

namespace Sys2Proof

/-- The page numbers are the four of R52. -/
theorem isPage_iff (p : Byte) : isPage p = true ↔ p = 6#8 ∨ p = 7#8 ∨ p = 8#8 ∨ p = 9#8 := by
  simp only [isPage, pageFirst, pageLast, Bool.and_eq_true, decide_eq_true_eq]
  bv_omega

theorem selectPage_cases {P : Instr → Prop} {a : Half} {page d1 d2 d3 d4 : Byte}
    (p6 : page = 6#8 → P (.writeP6 a d1 d2 d3 d4)) (p7 : page = 7#8 → P (.writeP7 a d1 d2 d3 d4))
    (p8 : page = 8#8 → P (.writeP8 a d1 d2 d3 d4)) (p9 : page = 9#8 → P (.writeP9 a d1 d2 d3 d4))
    (other : isPage page = false → P (.writeOther a page)) : P (selectPage a page d1 d2 d3 d4) := by
  unfold selectPage
  by_cases h6 : page = 6#8
  · rw [if_pos h6]; exact p6 h6
  rw [if_neg h6]
  by_cases h7 : page = 7#8
  · rw [if_pos h7]; exact p7 h7
  rw [if_neg h7]
  by_cases h8 : page = 8#8
  · rw [if_pos h8]; exact p8 h8
  rw [if_neg h8]
  by_cases h9 : page = 9#8
  · rw [if_pos h9]; exact p9 h9
  rw [if_neg h9]
  exact other (Bool.eq_false_iff.2 fun h => by simpa [h6, h7, h8, h9] using (isPage_iff page).1 h)

theorem decodeCommand_cases {P : Instr → Prop} {cfg : Config} {a fc : Half} {len : Nat} {pl : Nat → Byte}
    (initPort : fc = cfg.fcInitPort → P (.initPort a)) (setAntenna : fc = cfg.fcSetAntenna → P (.setAntenna a))
    (request : fc = cfg.fcRequest → P (.request a)) (antiColl : fc = cfg.fcAntiColl → P (.antiColl a))
    (select : fc = cfg.fcSelect → P (.select a)) (halt : fc = cfg.fcHalt → P (.halt a))
    (readData : fc = cfg.fcRead → P (.readData a))
    (noPage : fc = cfg.fcWrite → len = 0 → P (.writeData a (pl 0) (pl 1) (pl 2) (pl 3) (pl 4)))
    (page : fc = cfg.fcWrite → len ≠ 0 → P (selectPage a (pl 0) (pl 1) (pl 2) (pl 3) (pl 4)))
    (unknown : fc ∉ cfg.codes → P (.unknown a fc)) : P (decodeCommand cfg a fc len pl) := by
  unfold decodeCommand
  by_cases h1 : fc = cfg.fcInitPort
  · rw [if_pos h1]; exact initPort h1
  rw [if_neg h1]
  by_cases h2 : fc = cfg.fcSetAntenna
  · rw [if_pos h2]; exact setAntenna h2
  rw [if_neg h2]
  by_cases h3 : fc = cfg.fcRequest
  · rw [if_pos h3]; exact request h3
  rw [if_neg h3]
  by_cases h4 : fc = cfg.fcAntiColl
  · rw [if_pos h4]; exact antiColl h4
  rw [if_neg h4]
  by_cases h5 : fc = cfg.fcSelect
  · rw [if_pos h5]; exact select h5
  rw [if_neg h5]
  by_cases h6 : fc = cfg.fcHalt
  · rw [if_pos h6]; exact halt h6
  rw [if_neg h6]
  by_cases h7 : fc = cfg.fcRead
  · rw [if_pos h7]; exact readData h7
  rw [if_neg h7]
  by_cases h8 : fc = cfg.fcWrite
  · rw [if_pos h8]
    by_cases hl : len = 0
    · rw [if_pos hl]; exact noPage h8 hl
    · rw [if_neg hl]; exact page h8 hl
  rw [if_neg h8]
  exact unknown (by simp [Config.codes, h1, h2, h3, h4, h5, h6, h7, h8])

/-- A decoded command carries the address and the function code of its frame. -/
theorem decodeCommand_carries (cfg : Config) (a fc : Half) (len : Nat) (pl : Nat → Byte) :
    (decodeCommand cfg a fc len pl).address = a ∧ (decodeCommand cfg a fc len pl).functionCode cfg = fc := by
  apply decodeCommand_cases (P := fun i => i.address = a ∧ i.functionCode cfg = fc)
  case unknown => intro _; exact ⟨rfl, rfl⟩
  case noPage => intro code _; exact ⟨rfl, code.symm⟩
  case page =>
    intro code _
    apply selectPage_cases (P := fun i => i.address = a ∧ i.functionCode cfg = fc) <;>
      (intro _; exact ⟨rfl, code.symm⟩)
  all_goals (intro code; exact ⟨rfl, code.symm⟩)

theorem decodeCommand_address (cfg : Config) (a fc : Half) (len : Nat) (pl : Nat → Byte) :
    (decodeCommand cfg a fc len pl).address = a := (decodeCommand_carries cfg a fc len pl).1

theorem decodeCommand_functionCode (cfg : Config) (a fc : Half) (len : Nat) (pl : Nat → Byte) :
    (decodeCommand cfg a fc len pl).functionCode cfg = fc := (decodeCommand_carries cfg a fc len pl).2

end Sys2Proof
end

