-- ==== Sys2Proof/Laws/State.lean ====
section
/-! SUPPORT. One lemma per field per update of State, so that no proof unfolds a record update. -/

namespace Sys2Proof.Machine

variable (s : State)

/-! `setRxState` -/

@[simp] theorem State.setRxState_cfg (v : RxState) : (s.setRxState v).cfg = s.cfg := rfl
@[simp] theorem State.setRxState_rxState (v : RxState) : (s.setRxState v).rxState = v := rfl
@[simp] theorem State.setRxState_pairHi (v : RxState) : (s.setRxState v).pairHi = s.pairHi := rfl
@[simp] theorem State.setRxState_rxIndex (v : RxState) : (s.setRxState v).rxIndex = s.rxIndex := rfl
@[simp] theorem State.setRxState_tStart (v : RxState) : (s.setRxState v).tStart = s.tStart := rfl
@[simp] theorem State.setRxState_frm (v : RxState) : (s.setRxState v).frm = s.frm := rfl
@[simp] theorem State.setRxState_record (v : RxState) : (s.setRxState v).record = s.record := rfl
@[simp] theorem State.setRxState_inputs (v : RxState) : (s.setRxState v).inputs = s.inputs := rfl
@[simp] theorem State.setRxState_outputs (v : RxState) : (s.setRxState v).outputs = s.outputs := rfl
@[simp] theorem State.setRxState_aborts (v : RxState) : (s.setRxState v).aborts = s.aborts := rfl

/-! `setPairHi` -/

@[simp] theorem State.setPairHi_cfg (v : Bool) : (s.setPairHi v).cfg = s.cfg := rfl
@[simp] theorem State.setPairHi_rxState (v : Bool) : (s.setPairHi v).rxState = s.rxState := rfl
@[simp] theorem State.setPairHi_pairHi (v : Bool) : (s.setPairHi v).pairHi = v := rfl
@[simp] theorem State.setPairHi_rxIndex (v : Bool) : (s.setPairHi v).rxIndex = s.rxIndex := rfl
@[simp] theorem State.setPairHi_tStart (v : Bool) : (s.setPairHi v).tStart = s.tStart := rfl
@[simp] theorem State.setPairHi_frm (v : Bool) : (s.setPairHi v).frm = s.frm := rfl
@[simp] theorem State.setPairHi_record (v : Bool) : (s.setPairHi v).record = s.record := rfl
@[simp] theorem State.setPairHi_inputs (v : Bool) : (s.setPairHi v).inputs = s.inputs := rfl
@[simp] theorem State.setPairHi_outputs (v : Bool) : (s.setPairHi v).outputs = s.outputs := rfl
@[simp] theorem State.setPairHi_aborts (v : Bool) : (s.setPairHi v).aborts = s.aborts := rfl

/-! `setRxIndex` -/

@[simp] theorem State.setRxIndex_cfg (v : BitVec 7) : (s.setRxIndex v).cfg = s.cfg := rfl
@[simp] theorem State.setRxIndex_rxState (v : BitVec 7) : (s.setRxIndex v).rxState = s.rxState := rfl
@[simp] theorem State.setRxIndex_pairHi (v : BitVec 7) : (s.setRxIndex v).pairHi = s.pairHi := rfl
@[simp] theorem State.setRxIndex_rxIndex (v : BitVec 7) : (s.setRxIndex v).rxIndex = v := rfl
@[simp] theorem State.setRxIndex_tStart (v : BitVec 7) : (s.setRxIndex v).tStart = s.tStart := rfl
@[simp] theorem State.setRxIndex_frm (v : BitVec 7) : (s.setRxIndex v).frm = s.frm := rfl
@[simp] theorem State.setRxIndex_record (v : BitVec 7) : (s.setRxIndex v).record = s.record := rfl
@[simp] theorem State.setRxIndex_inputs (v : BitVec 7) : (s.setRxIndex v).inputs = s.inputs := rfl
@[simp] theorem State.setRxIndex_outputs (v : BitVec 7) : (s.setRxIndex v).outputs = s.outputs := rfl
@[simp] theorem State.setRxIndex_aborts (v : BitVec 7) : (s.setRxIndex v).aborts = s.aborts := rfl

/-! `setTStart` -/

@[simp] theorem State.setTStart_cfg (v : Time) : (s.setTStart v).cfg = s.cfg := rfl
@[simp] theorem State.setTStart_rxState (v : Time) : (s.setTStart v).rxState = s.rxState := rfl
@[simp] theorem State.setTStart_pairHi (v : Time) : (s.setTStart v).pairHi = s.pairHi := rfl
@[simp] theorem State.setTStart_rxIndex (v : Time) : (s.setTStart v).rxIndex = s.rxIndex := rfl
@[simp] theorem State.setTStart_tStart (v : Time) : (s.setTStart v).tStart = v := rfl
@[simp] theorem State.setTStart_frm (v : Time) : (s.setTStart v).frm = s.frm := rfl
@[simp] theorem State.setTStart_record (v : Time) : (s.setTStart v).record = s.record := rfl
@[simp] theorem State.setTStart_inputs (v : Time) : (s.setTStart v).inputs = s.inputs := rfl
@[simp] theorem State.setTStart_outputs (v : Time) : (s.setTStart v).outputs = s.outputs := rfl
@[simp] theorem State.setTStart_aborts (v : Time) : (s.setTStart v).aborts = s.aborts := rfl

/-! `setFrm` -/

@[simp] theorem State.setFrm_cfg (v : Frame) : (s.setFrm v).cfg = s.cfg := rfl
@[simp] theorem State.setFrm_rxState (v : Frame) : (s.setFrm v).rxState = s.rxState := rfl
@[simp] theorem State.setFrm_pairHi (v : Frame) : (s.setFrm v).pairHi = s.pairHi := rfl
@[simp] theorem State.setFrm_rxIndex (v : Frame) : (s.setFrm v).rxIndex = s.rxIndex := rfl
@[simp] theorem State.setFrm_tStart (v : Frame) : (s.setFrm v).tStart = s.tStart := rfl
@[simp] theorem State.setFrm_frm (v : Frame) : (s.setFrm v).frm = v := rfl
@[simp] theorem State.setFrm_record (v : Frame) : (s.setFrm v).record = s.record := rfl
@[simp] theorem State.setFrm_inputs (v : Frame) : (s.setFrm v).inputs = s.inputs := rfl
@[simp] theorem State.setFrm_outputs (v : Frame) : (s.setFrm v).outputs = s.outputs := rfl
@[simp] theorem State.setFrm_aborts (v : Frame) : (s.setFrm v).aborts = s.aborts := rfl

/-! `setRecord` -/

@[simp] theorem State.setRecord_cfg (v : Record) : (s.setRecord v).cfg = s.cfg := rfl
@[simp] theorem State.setRecord_rxState (v : Record) : (s.setRecord v).rxState = s.rxState := rfl
@[simp] theorem State.setRecord_pairHi (v : Record) : (s.setRecord v).pairHi = s.pairHi := rfl
@[simp] theorem State.setRecord_rxIndex (v : Record) : (s.setRecord v).rxIndex = s.rxIndex := rfl
@[simp] theorem State.setRecord_tStart (v : Record) : (s.setRecord v).tStart = s.tStart := rfl
@[simp] theorem State.setRecord_frm (v : Record) : (s.setRecord v).frm = s.frm := rfl
@[simp] theorem State.setRecord_record (v : Record) : (s.setRecord v).record = v := rfl
@[simp] theorem State.setRecord_inputs (v : Record) : (s.setRecord v).inputs = s.inputs := rfl
@[simp] theorem State.setRecord_outputs (v : Record) : (s.setRecord v).outputs = s.outputs := rfl
@[simp] theorem State.setRecord_aborts (v : Record) : (s.setRecord v).aborts = s.aborts := rfl

/-! `setInputs` -/

@[simp] theorem State.setInputs_cfg (v : List Event) : (s.setInputs v).cfg = s.cfg := rfl
@[simp] theorem State.setInputs_rxState (v : List Event) : (s.setInputs v).rxState = s.rxState := rfl
@[simp] theorem State.setInputs_pairHi (v : List Event) : (s.setInputs v).pairHi = s.pairHi := rfl
@[simp] theorem State.setInputs_rxIndex (v : List Event) : (s.setInputs v).rxIndex = s.rxIndex := rfl
@[simp] theorem State.setInputs_tStart (v : List Event) : (s.setInputs v).tStart = s.tStart := rfl
@[simp] theorem State.setInputs_frm (v : List Event) : (s.setInputs v).frm = s.frm := rfl
@[simp] theorem State.setInputs_record (v : List Event) : (s.setInputs v).record = s.record := rfl
@[simp] theorem State.setInputs_inputs (v : List Event) : (s.setInputs v).inputs = v := rfl
@[simp] theorem State.setInputs_outputs (v : List Event) : (s.setInputs v).outputs = s.outputs := rfl
@[simp] theorem State.setInputs_aborts (v : List Event) : (s.setInputs v).aborts = s.aborts := rfl

/-! `setLength` -/

@[simp] theorem State.setLength_cfg (v : Half) : (s.setLength v).cfg = s.cfg := rfl
@[simp] theorem State.setLength_rxState (v : Half) : (s.setLength v).rxState = s.rxState := rfl
@[simp] theorem State.setLength_pairHi (v : Half) : (s.setLength v).pairHi = s.pairHi := rfl
@[simp] theorem State.setLength_rxIndex (v : Half) : (s.setLength v).rxIndex = s.rxIndex := rfl
@[simp] theorem State.setLength_tStart (v : Half) : (s.setLength v).tStart = s.tStart := rfl
@[simp] theorem State.setLength_frm (v : Half) : (s.setLength v).frm = { s.frm with length := v } := rfl
@[simp] theorem State.setLength_record (v : Half) : (s.setLength v).record = s.record := rfl
@[simp] theorem State.setLength_inputs (v : Half) : (s.setLength v).inputs = s.inputs := rfl
@[simp] theorem State.setLength_outputs (v : Half) : (s.setLength v).outputs = s.outputs := rfl
@[simp] theorem State.setLength_aborts (v : Half) : (s.setLength v).aborts = s.aborts := rfl

/-! `setAddress` -/

@[simp] theorem State.setAddress_cfg (v : Half) : (s.setAddress v).cfg = s.cfg := rfl
@[simp] theorem State.setAddress_rxState (v : Half) : (s.setAddress v).rxState = s.rxState := rfl
@[simp] theorem State.setAddress_pairHi (v : Half) : (s.setAddress v).pairHi = s.pairHi := rfl
@[simp] theorem State.setAddress_rxIndex (v : Half) : (s.setAddress v).rxIndex = s.rxIndex := rfl
@[simp] theorem State.setAddress_tStart (v : Half) : (s.setAddress v).tStart = s.tStart := rfl
@[simp] theorem State.setAddress_frm (v : Half) : (s.setAddress v).frm = { s.frm with address := v } := rfl
@[simp] theorem State.setAddress_record (v : Half) : (s.setAddress v).record = s.record := rfl
@[simp] theorem State.setAddress_inputs (v : Half) : (s.setAddress v).inputs = s.inputs := rfl
@[simp] theorem State.setAddress_outputs (v : Half) : (s.setAddress v).outputs = s.outputs := rfl
@[simp] theorem State.setAddress_aborts (v : Half) : (s.setAddress v).aborts = s.aborts := rfl

/-! `setFunctionCode` -/

@[simp] theorem State.setFunctionCode_cfg (v : Half) : (s.setFunctionCode v).cfg = s.cfg := rfl
@[simp] theorem State.setFunctionCode_rxState (v : Half) : (s.setFunctionCode v).rxState = s.rxState := rfl
@[simp] theorem State.setFunctionCode_pairHi (v : Half) : (s.setFunctionCode v).pairHi = s.pairHi := rfl
@[simp] theorem State.setFunctionCode_rxIndex (v : Half) : (s.setFunctionCode v).rxIndex = s.rxIndex := rfl
@[simp] theorem State.setFunctionCode_tStart (v : Half) : (s.setFunctionCode v).tStart = s.tStart := rfl
@[simp] theorem State.setFunctionCode_frm (v : Half) : (s.setFunctionCode v).frm = { s.frm with functionCode := v } := rfl
@[simp] theorem State.setFunctionCode_record (v : Half) : (s.setFunctionCode v).record = s.record := rfl
@[simp] theorem State.setFunctionCode_inputs (v : Half) : (s.setFunctionCode v).inputs = s.inputs := rfl
@[simp] theorem State.setFunctionCode_outputs (v : Half) : (s.setFunctionCode v).outputs = s.outputs := rfl
@[simp] theorem State.setFunctionCode_aborts (v : Half) : (s.setFunctionCode v).aborts = s.aborts := rfl

/-! `emit` -/

@[simp] theorem State.emit_cfg (o : Output) : (s.emit o).cfg = s.cfg := rfl
@[simp] theorem State.emit_rxState (o : Output) : (s.emit o).rxState = s.rxState := rfl
@[simp] theorem State.emit_pairHi (o : Output) : (s.emit o).pairHi = s.pairHi := rfl
@[simp] theorem State.emit_rxIndex (o : Output) : (s.emit o).rxIndex = s.rxIndex := rfl
@[simp] theorem State.emit_tStart (o : Output) : (s.emit o).tStart = s.tStart := rfl
@[simp] theorem State.emit_frm (o : Output) : (s.emit o).frm = s.frm := rfl
@[simp] theorem State.emit_record (o : Output) : (s.emit o).record = s.record := rfl
@[simp] theorem State.emit_inputs (o : Output) : (s.emit o).inputs = s.inputs := rfl
@[simp] theorem State.emit_outputs (o : Output) : (s.emit o).outputs = s.outputs ++ [o] := rfl
@[simp] theorem State.emit_aborts (o : Output) : (s.emit o).aborts = s.aborts := rfl

/-! `noteAbort` -/

@[simp] theorem State.noteAbort_cfg (c : AbortCause) : (s.noteAbort c).cfg = s.cfg := rfl
@[simp] theorem State.noteAbort_rxState (c : AbortCause) : (s.noteAbort c).rxState = s.rxState := rfl
@[simp] theorem State.noteAbort_pairHi (c : AbortCause) : (s.noteAbort c).pairHi = s.pairHi := rfl
@[simp] theorem State.noteAbort_rxIndex (c : AbortCause) : (s.noteAbort c).rxIndex = s.rxIndex := rfl
@[simp] theorem State.noteAbort_tStart (c : AbortCause) : (s.noteAbort c).tStart = s.tStart := rfl
@[simp] theorem State.noteAbort_frm (c : AbortCause) : (s.noteAbort c).frm = s.frm := rfl
@[simp] theorem State.noteAbort_record (c : AbortCause) : (s.noteAbort c).record = s.record := rfl
@[simp] theorem State.noteAbort_inputs (c : AbortCause) : (s.noteAbort c).inputs = s.inputs := rfl
@[simp] theorem State.noteAbort_outputs (c : AbortCause) : (s.noteAbort c).outputs = s.outputs := rfl
@[simp] theorem State.noteAbort_aborts (c : AbortCause) : (s.noteAbort c).aborts = s.aborts ++ [c] := rfl

/-! `framingAbort` -/

@[simp] theorem State.framingAbort_cfg (c : AbortCause) : (s.framingAbort c).cfg = s.cfg := rfl
@[simp] theorem State.framingAbort_rxState (c : AbortCause) : (s.framingAbort c).rxState = .idle := rfl
@[simp] theorem State.framingAbort_pairHi (c : AbortCause) : (s.framingAbort c).pairHi = s.pairHi := rfl
@[simp] theorem State.framingAbort_rxIndex (c : AbortCause) : (s.framingAbort c).rxIndex = s.rxIndex := rfl
@[simp] theorem State.framingAbort_tStart (c : AbortCause) : (s.framingAbort c).tStart = s.tStart := rfl
@[simp] theorem State.framingAbort_frm (c : AbortCause) : (s.framingAbort c).frm = s.frm := rfl
@[simp] theorem State.framingAbort_record (c : AbortCause) : (s.framingAbort c).record = s.record := rfl
@[simp] theorem State.framingAbort_inputs (c : AbortCause) : (s.framingAbort c).inputs = s.inputs := rfl
@[simp] theorem State.framingAbort_outputs (c : AbortCause) : (s.framingAbort c).outputs = s.outputs := rfl
@[simp] theorem State.framingAbort_aborts (c : AbortCause) : (s.framingAbort c).aborts = s.aborts ++ [c] := rfl

/-! `unknownCommand` -/

@[simp] theorem State.unknownCommand_cfg (fc : Half) : (s.unknownCommand fc).cfg = s.cfg := rfl
@[simp] theorem State.unknownCommand_rxState (fc : Half) : (s.unknownCommand fc).rxState = s.rxState := rfl
@[simp] theorem State.unknownCommand_pairHi (fc : Half) : (s.unknownCommand fc).pairHi = s.pairHi := rfl
@[simp] theorem State.unknownCommand_rxIndex (fc : Half) : (s.unknownCommand fc).rxIndex = s.rxIndex := rfl
@[simp] theorem State.unknownCommand_tStart (fc : Half) : (s.unknownCommand fc).tStart = s.tStart := rfl
@[simp] theorem State.unknownCommand_frm (fc : Half) : (s.unknownCommand fc).frm = s.frm := rfl
@[simp] theorem State.unknownCommand_record (fc : Half) : (s.unknownCommand fc).record = s.record := rfl
@[simp] theorem State.unknownCommand_inputs (fc : Half) : (s.unknownCommand fc).inputs = s.inputs := rfl
@[simp] theorem State.unknownCommand_outputs (fc : Half) : (s.unknownCommand fc).outputs = s.outputs ++ [.unknownCmd fc] := rfl
@[simp] theorem State.unknownCommand_aborts (fc : Half) : (s.unknownCommand fc).aborts = s.aborts := rfl

/-! `expectLow` -/

@[simp] theorem State.expectLow_cfg : s.expectLow.cfg = s.cfg := rfl
@[simp] theorem State.expectLow_rxState : s.expectLow.rxState = s.rxState := rfl
@[simp] theorem State.expectLow_pairHi : s.expectLow.pairHi = false := rfl
@[simp] theorem State.expectLow_rxIndex : s.expectLow.rxIndex = s.rxIndex := rfl
@[simp] theorem State.expectLow_tStart : s.expectLow.tStart = s.tStart := rfl
@[simp] theorem State.expectLow_frm : s.expectLow.frm = s.frm := rfl
@[simp] theorem State.expectLow_record : s.expectLow.record = s.record := rfl
@[simp] theorem State.expectLow_inputs : s.expectLow.inputs = s.inputs := rfl
@[simp] theorem State.expectLow_outputs : s.expectLow.outputs = s.outputs := rfl
@[simp] theorem State.expectLow_aborts : s.expectLow.aborts = s.aborts := rfl

/-! `expectHigh` -/

@[simp] theorem State.expectHigh_cfg : s.expectHigh.cfg = s.cfg := rfl
@[simp] theorem State.expectHigh_rxState : s.expectHigh.rxState = s.rxState := rfl
@[simp] theorem State.expectHigh_pairHi : s.expectHigh.pairHi = true := rfl
@[simp] theorem State.expectHigh_rxIndex : s.expectHigh.rxIndex = s.rxIndex := rfl
@[simp] theorem State.expectHigh_tStart : s.expectHigh.tStart = s.tStart := rfl
@[simp] theorem State.expectHigh_frm : s.expectHigh.frm = s.frm := rfl
@[simp] theorem State.expectHigh_record : s.expectHigh.record = s.record := rfl
@[simp] theorem State.expectHigh_inputs : s.expectHigh.inputs = s.inputs := rfl
@[simp] theorem State.expectHigh_outputs : s.expectHigh.outputs = s.outputs := rfl
@[simp] theorem State.expectHigh_aborts : s.expectHigh.aborts = s.aborts := rfl

/-! `respond` -/

@[simp] theorem State.respond_cfg (a fc : Half) (p : List Byte) : (s.respond a fc p).cfg = s.cfg := rfl
@[simp] theorem State.respond_rxState (a fc : Half) (p : List Byte) : (s.respond a fc p).rxState = s.rxState := rfl
@[simp] theorem State.respond_pairHi (a fc : Half) (p : List Byte) : (s.respond a fc p).pairHi = s.pairHi := rfl
@[simp] theorem State.respond_rxIndex (a fc : Half) (p : List Byte) : (s.respond a fc p).rxIndex = s.rxIndex := rfl
@[simp] theorem State.respond_tStart (a fc : Half) (p : List Byte) : (s.respond a fc p).tStart = s.tStart := rfl
@[simp] theorem State.respond_frm (a fc : Half) (p : List Byte) : (s.respond a fc p).frm = s.frm := rfl
@[simp] theorem State.respond_record (a fc : Half) (p : List Byte) : (s.respond a fc p).record = s.record := rfl
@[simp] theorem State.respond_inputs (a fc : Half) (p : List Byte) : (s.respond a fc p).inputs = s.inputs := rfl
@[simp] theorem State.respond_outputs (a fc : Half) (p : List Byte) : (s.respond a fc p).outputs = s.outputs ++ [.response (build a fc p)] := rfl
@[simp] theorem State.respond_aborts (a fc : Half) (p : List Byte) : (s.respond a fc p).aborts = s.aborts := rfl

end Sys2Proof.Machine
end

