-- ==== Sys2Proof/Laws/Exec.lean ====
section
/-! SUPPORT. What the execution of a command can do: it always answers, and it changes the record and the outputs only. -/

namespace Sys2Proof.Machine

/-- The effects a command can have: another record with the same id, and outputs at the end. -/
def CommandEffect (s t : State) : Prop :=
  ∃ (r : Record) (new : List Output), r.id = s.record.id ∧ t = { s with record := r, outputs := s.outputs ++ new }

theorem CommandEffect.respond (s : State) (r : Record) (h : r.id = s.record.id) (a fc : Half) (p : List Byte) :
    CommandEffect s ((s.setRecord r).respond a fc p) :=
  ⟨r, [.response (build a fc p)], h, rfl⟩

theorem CommandEffect.respondOnly (s : State) (a fc : Half) (p : List Byte) : CommandEffect s (s.respond a fc p) :=
  ⟨s.record, [.response (build a fc p)], rfl, rfl⟩

@[simp] theorem unlimitedReset_id (u : Bool) (r : Record) : (r.unlimitedReset u).id = r.id := by
  unfold Record.unlimitedReset; split <;> rfl

theorem CommandEffect.page9 (s : State) (d1 d2 d3 d4 : Byte) (a fc : Half) (p : List Byte) :
    CommandEffect s ((s.writePage9 d1 d2 d3 d4).respond a fc p) := by
  refine ⟨(s.record.page9 d1 d2 d3 d4).unlimitedReset s.cfg.unlimitedFilament,
    [.save s.cfg.storeOffset ((s.record.page9 d1 d2 d3 d4).unlimitedReset s.cfg.unlimitedFilament),
      .response (build a fc p)], by simp [Record.page9], ?_⟩
  simp [State.writePage9, State.save, State.setRecord, State.respond, State.emit]

/-- The umbrella command and the page its number selects (R170). -/
theorem execWriteData_selects (a : Half) (page d1 d2 d3 d4 : Byte) (s : State) :
    exec (.writeData a page d1 d2 d3 d4) s = exec (selectPage a page d1 d2 d3 d4) s := by
  simp only [exec, execWriteData, State.writePage, selectPage]
  split_ifs <;> rfl

/-- Every command answers a next state, with a command's effect. -/
theorem exec_answers (i : Instr) (s : State) : ∃ t, exec i s = .next t ∧ CommandEffect s t := by
  have pages : ∀ a page d1 d2 d3 d4, ∃ t, exec (selectPage a page d1 d2 d3 d4) s = .next t ∧ CommandEffect s t := by
    intro a page d1 d2 d3 d4
    unfold selectPage
    split_ifs
    · exact ⟨_, rfl, CommandEffect.respond s (s.record.page6 d1 d2 d3 d4) rfl _ _ _⟩
    · exact ⟨_, rfl, CommandEffect.respond s (s.record.page7 d1 d2 d3 d4) rfl _ _ _⟩
    · exact ⟨_, rfl, CommandEffect.respond s (s.record.page8 d1 d2 d3 d4) rfl _ _ _⟩
    · exact ⟨_, rfl, CommandEffect.page9 s _ _ _ _ _ _ _⟩
    · exact ⟨_, rfl, CommandEffect.respondOnly s _ _ _⟩
  cases i with
  | setAntenna a => exact ⟨s, rfl, s.record, [], rfl, by simp⟩
  | writeData a page d1 d2 d3 d4 => rw [execWriteData_selects]; exact pages a page d1 d2 d3 d4
  | writeP6 a d1 d2 d3 d4 => exact ⟨_, rfl, CommandEffect.respond s (s.record.page6 d1 d2 d3 d4) rfl _ _ _⟩
  | writeP7 a d1 d2 d3 d4 => exact ⟨_, rfl, CommandEffect.respond s (s.record.page7 d1 d2 d3 d4) rfl _ _ _⟩
  | writeP8 a d1 d2 d3 d4 => exact ⟨_, rfl, CommandEffect.respond s (s.record.page8 d1 d2 d3 d4) rfl _ _ _⟩
  | writeP9 a d1 d2 d3 d4 => exact ⟨_, rfl, CommandEffect.page9 s _ _ _ _ _ _ _⟩
  | unknown a fc => exact ⟨_, rfl, s.record, [.unknownCmd fc], rfl, rfl⟩
  | initPort a => exact ⟨_, rfl, CommandEffect.respondOnly s _ _ _⟩
  | request a => exact ⟨_, rfl, CommandEffect.respondOnly s _ _ _⟩
  | antiColl a => exact ⟨_, rfl, CommandEffect.respondOnly s _ _ _⟩
  | select a => exact ⟨_, rfl, CommandEffect.respondOnly s _ _ _⟩
  | halt a => exact ⟨_, rfl, CommandEffect.respondOnly s _ _ _⟩
  | readData a => exact ⟨_, rfl, CommandEffect.respondOnly s _ _ _⟩
  | writeOther a p => exact ⟨_, rfl, CommandEffect.respondOnly s _ _ _⟩

end Sys2Proof.Machine
end

