-- ==== Sys2Proof/Laws/Memory.lean ====
section
/-! SUPPORT. The payload buffer: a read after a write, and the canonical form, which every operation keeps. -/

namespace Sys2Proof.Machine

@[simp] theorem Memory.read_nil (i : Nat) : Memory.read [] i = 0#8 := rfl

theorem Memory.read_cons (c : Host.Cell) (m : Memory) (i : Nat) :
    Memory.read (c :: m) i = if i = c.1 then c.2 else Memory.read m i := by
  obtain ⟨k, w⟩ := c
  simp only [Memory.read, List.lookup_cons]
  split <;> simp_all

/-- An index below every listed one reads as unlisted. -/
theorem Memory.read_of_lt_all {m : Memory} {i : Nat} (h : ∀ c ∈ m, i < c.1) : m.read i = 0#8 := by
  induction m with
  | nil => rfl
  | cons c m ih =>
    rw [Memory.read_cons, if_neg (Nat.ne_of_lt (h c (by simp)))]
    exact ih fun d hd => h d (by simp [hd])

/-- An index above every listed one reads as unlisted. -/
theorem Memory.read_of_all_lt {m : Memory} {i : Nat} (h : ∀ c ∈ m, c.1 < i) : m.read i = 0#8 := by
  induction m with
  | nil => rfl
  | cons c m ih =>
    rw [Memory.read_cons, if_neg (Nat.ne_of_gt (h c (by simp)))]
    exact ih fun d hd => h d (by simp [hd])

theorem Memory.read_write_other (m : Memory) {i j : Nat} (v : Byte) (h : j ≠ i) :
    (m.write i v).read j = m.read j := by
  induction m with
  | nil => simp only [Memory.write]; split <;> simp [Memory.read_cons, h]
  | cons c m ih =>
    simp only [Memory.write]
    split_ifs <;> simp_all [Memory.read_cons]

theorem Memory.read_write_same {m : Memory} (hm : m.Pairwise (fun c d => c.1 < d.1)) (i : Nat) (v : Byte) :
    (m.write i v).read i = v := by
  induction m with
  | nil => simp only [Memory.write]; split <;> simp_all [Memory.read_cons, Memory.unlisted]
  | cons c m ih =>
    obtain ⟨hc, hm⟩ := List.pairwise_cons.1 hm
    simp only [Memory.write]
    split_ifs with h1 h2 h3 h4
    · rw [Memory.read_of_lt_all, h2]; · rfl
      simp only [List.mem_cons, forall_eq_or_imp]
      exact ⟨h1, fun d hd => Nat.lt_trans h1 (hc d hd)⟩
    · simp [Memory.read_cons]
    · rw [Memory.read_of_lt_all, h4]; · rfl
      exact fun d hd => h3 ▸ hc d hd
    · simp [Memory.read_cons]
    · rw [Memory.read_cons, if_neg h3, ih hm]

/-- The cells after a write: the old ones, and the written one. -/
theorem Memory.mem_write {m : Memory} {i : Nat} {v : Byte} {c : Host.Cell} (h : c ∈ m.write i v) :
    c ∈ m ∨ (c = (i, v) ∧ v ≠ Memory.unlisted) := by
  induction m with
  | nil => simp only [Memory.write] at h; split at h <;> simp_all
  | cons d m ih =>
    simp only [Memory.write] at h
    split_ifs at h <;> simp only [List.mem_cons] at h ⊢ <;> grind

theorem Memory.write_pairwise {m : Memory} (hm : m.Pairwise (fun c d => c.1 < d.1)) (i : Nat) (v : Byte) :
    (m.write i v).Pairwise (fun c d => c.1 < d.1) := by
  induction m with
  | nil => simp only [Memory.write]; split <;> simp
  | cons c m ih =>
    obtain ⟨hc, hm'⟩ := List.pairwise_cons.1 hm
    simp only [Memory.write]
    split_ifs with h1 h2 h3 h4
    · exact hm
    · refine List.pairwise_cons.2 ⟨?_, hm⟩
      simp only [List.mem_cons, forall_eq_or_imp]
      exact ⟨h1, fun d hd => Nat.lt_trans h1 (hc d hd)⟩
    · exact hm'
    · exact List.pairwise_cons.2 ⟨fun d hd => h3 ▸ hc d hd, hm'⟩
    · refine List.pairwise_cons.2 ⟨fun d hd => ?_, ih hm'⟩
      rcases Memory.mem_write hd with h | ⟨rfl, _⟩
      · exact hc d h
      · simp only; omega

theorem Memory.empty_wf : Memory.wf [] := by simp [Memory.wf]

/-- Every write inside the buffer keeps the canonical form. -/
theorem Memory.write_wf {m : Memory} (hm : m.wf) {i : Nat} (hi : i < payloadCap) (v : Byte) : (m.write i v).wf := by
  refine ⟨Memory.write_pairwise hm.1 i v, fun c hc => ?_⟩
  rcases Memory.mem_write hc with h | ⟨rfl, hv⟩
  · exact hm.2 c h
  · exact ⟨hi, hv⟩

/-- A stored payload byte, when the index exists. -/
theorem State.storePayload_next {s t : State} {i : Nat} {v : Byte} (h : s.storePayload i v = .next t) :
    i < payloadCap ∧ t = s.setFrm { s.frm with payload := s.frm.payload.write i v } := by
  unfold State.storePayload at h
  split at h
  · exact ⟨‹_›, by simpa using h.symm⟩
  · cases h

end Sys2Proof.Machine
end

