-- ==== Sys2Proof/Laws/PerInstr.lean ====
section
/-! SUPPORT. One lemma per constructor of Instr, about its encoding: the frame of a command starts with the sync bytes,
carries its address and function code at wire bytes 5 to 8, and has payload length + 9 bytes, at most 73
(spec/30_encoding.md R70). -/

namespace Sys2Proof.Laws.FrameShape

/-- The shape of a command's frame. -/
def Statement (i : Instr) : Prop :=
  ∀ cfg : Config,
    (encode cfg i).take 2 = [sync0, sync1] ∧
    ((encode cfg i).drop 4).take 4 =
      [lowByte i.address, highByte i.address, lowByte (i.functionCode cfg), highByte (i.functionCode cfg)] ∧
    (encode cfg i).length = i.payload.length + 9 ∧ (encode cfg i).length ≤ 73

theorem of_payload_le {i : Instr} (h : i.payload.length ≤ 64) : Statement i := fun cfg => by
  simp [encode, frameBytes]; omega

theorem initPort (a : Half) : Statement (.initPort a) := of_payload_le (by simp [Instr.payload])
theorem setAntenna (a : Half) : Statement (.setAntenna a) := of_payload_le (by simp [Instr.payload])
theorem request (a : Half) : Statement (.request a) := of_payload_le (by simp [Instr.payload])
theorem antiColl (a : Half) : Statement (.antiColl a) := of_payload_le (by simp [Instr.payload])
theorem select (a : Half) : Statement (.select a) := of_payload_le (by simp [Instr.payload])
theorem halt (a : Half) : Statement (.halt a) := of_payload_le (by simp [Instr.payload])
theorem readData (a : Half) : Statement (.readData a) := of_payload_le (by simp [Instr.payload])
theorem writeData (a : Half) (p d1 d2 d3 d4 : Byte) : Statement (.writeData a p d1 d2 d3 d4) :=
  of_payload_le (by simp [Instr.payload])
theorem writeP6 (a : Half) (d1 d2 d3 d4 : Byte) : Statement (.writeP6 a d1 d2 d3 d4) :=
  of_payload_le (by simp [Instr.payload])
theorem writeP7 (a : Half) (d1 d2 d3 d4 : Byte) : Statement (.writeP7 a d1 d2 d3 d4) :=
  of_payload_le (by simp [Instr.payload])
theorem writeP8 (a : Half) (d1 d2 d3 d4 : Byte) : Statement (.writeP8 a d1 d2 d3 d4) :=
  of_payload_le (by simp [Instr.payload])
theorem writeP9 (a : Half) (d1 d2 d3 d4 : Byte) : Statement (.writeP9 a d1 d2 d3 d4) :=
  of_payload_le (by simp [Instr.payload])
theorem writeOther (a : Half) (p : Byte) : Statement (.writeOther a p) := of_payload_le (by simp [pageData, Instr.payload])
theorem unknown (a fc : Half) : Statement (.unknown a fc) := of_payload_le (by simp [Instr.payload])

end Sys2Proof.Laws.FrameShape
end

