-- ==== Sys2Proof/Laws/Receiver.lean ====
section
/-! SUPPORT. What the receiver can do to a state: one lemma per state action, and the frame of the whole byte event before
dispatch. -/

namespace Sys2Proof.Machine

/-- Nothing outside the receiver has changed: configuration, record, events to come, outputs. -/
def SameOutside (s t : State) : Prop :=
  t.cfg = s.cfg ∧ t.record = s.record ∧ t.inputs = s.inputs ∧ t.outputs = s.outputs

theorem SameOutside.refl (s : State) : SameOutside s s := ⟨rfl, rfl, rfl, rfl⟩

theorem SameOutside.trans {s t u : State} (h : SameOutside s t) (k : SameOutside t u) : SameOutside s u :=
  ⟨k.1.trans h.1, k.2.1.trans h.2.1, k.2.2.1.trans h.2.2.1, k.2.2.2.trans h.2.2.2⟩

theorem setRxState_sameOutside (v : RxState) (s : State) : SameOutside s (s.setRxState v) := ⟨rfl, rfl, rfl, rfl⟩

theorem timedOut_eq (now : Time) (s : State) :
    s.timedOut now = true ↔ s.rxState ≠ .idle ∧ rxTimeout < (now - s.tStart).toNat := by
  simp only [State.timedOut, Bool.and_eq_true, bne_iff_ne, decide_eq_true_eq]
  rfl

/-- A byte that is not late leaves the state to its action. -/
theorem timeoutCheck_inTime {now : Time} {s : State} (h : (now - s.tStart).toNat ≤ rxTimeout) :
    s.timeoutCheck now = s := by
  rw [State.timeoutCheck, if_neg]
  rw [timedOut_eq]; omega

theorem timeoutCheck_idle {now : Time} {s : State} (h : s.rxState = .idle) : s.timeoutCheck now = s := by
  rw [State.timeoutCheck, if_neg]
  rw [timedOut_eq]; simp [h]

theorem timeoutCheck_late {now : Time} {s : State} (h : s.rxState ≠ .idle) (h' : rxTimeout < (now - s.tStart).toNat) :
    s.timeoutCheck now = s.framingAbort .rxTimeout := by
  rw [State.timeoutCheck, if_pos]
  exact (timedOut_eq now s).2 ⟨h, h'⟩

theorem timeoutCheck_sameOutside (now : Time) (s : State) : SameOutside s (s.timeoutCheck now) := by
  unfold State.timeoutCheck
  split <;> exact ⟨rfl, rfl, rfl, rfl⟩

/-! One lemma per state action: its outcome, as a record of what is written. -/

theorem rxIdle_sync (now : Time) (s : State) :
    rxIdle 0xAA#8 now s = { s with rxState := .start, tStart := now, rxIndex := 0#7, frm := Frame.cleared } := rfl

theorem rxIdle_other {b : Byte} (h : b ≠ 0xAA#8) (now : Time) (s : State) : rxIdle b now s = s := if_neg h

theorem rxStart_sync (s : State) : rxStart 0xBB#8 s = { s with pairHi := false, rxState := .length } := rfl

theorem rxStart_other {b : Byte} (h : b ≠ 0xBB#8) (s : State) : rxStart b s = s.framingAbort .badSecondSync := if_neg h

theorem rxLengthLow_eq (b : Byte) (s : State) :
    rxLengthLow b s = { s with frm := { s.frm with length := b.setWidth 16 }, pairHi := true } := rfl

theorem rxLengthHigh_under {b : Byte} {s : State} (h : (pairHigh s.frm.length b).toNat < 5) :
    rxLengthHigh b s =
      (s.expectLow.setLength (pairHigh s.frm.length b)).framingAbort .lengthUnderflow := by
  simp [rxLengthHigh, lengthUnderflows, h]

theorem rxLengthHigh_over {b : Byte} {s : State} (h : 64 < (pairHigh s.frm.length b).toNat - 5) :
    rxLengthHigh b s =
      (s.expectLow.setLength (pairHigh s.frm.length b)).framingAbort .lengthOverCapacity := by
  have h5 : ¬ (pairHigh s.frm.length b).toNat < 5 := by omega
  simp [rxLengthHigh, lengthUnderflows, lengthOverCapacity, h, h5]

theorem rxLengthHigh_ok {b : Byte} {s : State} (h : 5 ≤ (pairHigh s.frm.length b).toNat)
    (h' : (pairHigh s.frm.length b).toNat ≤ 69) :
    rxLengthHigh b s =
      { s with
        pairHi := false, rxState := .address,
        frm := { s.frm with length := payloadLength (pairHigh s.frm.length b) } } := by
  have h5 : ¬ (pairHigh s.frm.length b).toNat < 5 := by omega
  have h6 : ¬ 64 < (pairHigh s.frm.length b).toNat - 5 := by omega
  simp only [rxLengthHigh, lengthUnderflows, lengthOverCapacity, h5, h6, decide_false]
  rfl

/-- The payload length of an accepted raw length, as a number. -/
theorem payloadLength_toNat {raw : Half} (h : 5 ≤ raw.toNat) : (payloadLength raw).toNat = raw.toNat - 5 := by
  have h5 : (BitVec.ofNat 16 rxOverhead).toNat = 5 := rfl
  rw [payloadLength, BitVec.toNat_sub_of_le (by rw [BitVec.le_def]; omega), h5]

theorem rxData_next {b : Byte} {s t : State} (h : rxData b s = .next t) :
    s.rxIndex.toNat < payloadCap ∧
      t = (s.setFrm { s.frm with payload := s.frm.payload.write s.rxIndex.toNat b }).countPayloadByte := by
  unfold rxData at h
  split at h
  · rename_i s1 h1
    obtain ⟨hi, rfl⟩ := State.storePayload_next h1
    exact ⟨hi, by simpa using h.symm⟩
  · cases h
  · cases h

theorem countPayloadByte_cases (s : State) :
    s.countPayloadByte = (s.setRxIndex (s.rxIndex + 1#7)).setRxState .checksumSkip ∨
      s.countPayloadByte = s.setRxIndex (s.rxIndex + 1#7) := by
  simp only [State.countPayloadByte]
  split <;> simp

theorem countPayloadByte_eq (s : State) :
    s.countPayloadByte =
      { s with
        rxIndex := s.rxIndex + 1#7,
        rxState := if (s.rxIndex + 1#7).toNat = s.frm.length.toNat then .checksumSkip else s.rxState } := by
  by_cases h : (s.rxIndex + 1#7).toNat = s.frm.length.toNat <;>
    simp only [State.countPayloadByte, State.payloadDone, State.setRxIndex, State.setRxState, beq_iff_eq, h, if_true, if_false]

/-- The index counts without wrapping inside the buffer. -/
theorem rxIndex_succ {x : BitVec 7} (h : x.toNat < payloadCap) : (x + 1#7).toNat = x.toNat + 1 := by
  have : x.toNat < 64 := h
  rw [BitVec.toNat_add]; simp; omega

/-- Data, when the index exists. -/
theorem rxData_of_lt {s : State} (h : s.rxIndex.toNat < payloadCap) (b : Byte) :
    rxData b s =
      .next (s.setFrm { s.frm with payload := s.frm.payload.write s.rxIndex.toNat b }).countPayloadByte := by
  simp only [rxData, State.storePayload, if_pos h]

/-- The state actions touch nothing outside the receiver. -/
theorem rxAction_sameOutside {b : Byte} {now : Time} {s t : State} (h : rxAction b now s = .next t) :
    SameOutside s t := by
  unfold rxAction at h
  split at h
  · cases h; unfold rxIdle; split <;> exact ⟨rfl, rfl, rfl, rfl⟩
  · cases h; unfold rxStart; split <;> exact ⟨rfl, rfl, rfl, rfl⟩
  · cases h
    split
    · simp only [rxLengthHigh]; split_ifs <;> exact ⟨rfl, rfl, rfl, rfl⟩
    · exact ⟨rfl, rfl, rfl, rfl⟩
  · cases h; unfold rxAddress; split <;> exact ⟨rfl, rfl, rfl, rfl⟩
  · cases h; unfold rxFunctionCode; split <;> exact ⟨rfl, rfl, rfl, rfl⟩
  · obtain ⟨_, rfl⟩ := rxData_next h
    rcases countPayloadByte_cases (s.setFrm { s.frm with payload := s.frm.payload.write s.rxIndex.toNat b }) with h | h <;>
      rw [h] <;> exact ⟨rfl, rfl, rfl, rfl⟩
  · cases h; exact setRxState_sameOutside .complete s
  · cases h; exact SameOutside.refl s

/-- The receiver alone (R100) touches nothing outside itself: only dispatch does (R116 (e)). -/
theorem consumeByte_sameOutside {b : Byte} {now : Time} {s t : State} (h : consumeByte b now s = .next t) :
    SameOutside s t :=
  (timeoutCheck_sameOutside now s).trans (rxAction_sameOutside h)

end Sys2Proof.Machine
end

