-- ==== Sys2Proof/Laws/Step.lean ====
section
/-! SUPPORT. What a step can do, said once: a byte event is the receiver's action, followed by the command's execution when
the receiver has completed a frame; the other events are their operations. -/

namespace Sys2Proof.Machine

theorem step_of_nil {s : State} (h : s.inputs = []) : step s = .next s := by simp [step, h]

theorem step_of_cons {s : State} {e : Event} {rest : List Event} (h : s.inputs = e :: rest) :
    step s = runEvent e (s.setInputs rest) := by simp [step, h]

theorem dispatchTap_of_not_complete {s : State} (h : s.rxState ≠ .complete) : dispatchTap s = .next s := by
  simp [dispatchTap, State.tap, h]

theorem dispatchTap_of_complete {s : State} (h : s.rxState = .complete) :
    ∃ t, exec (decodeFrame s.cfg s.frm) s = .next t ∧ dispatchTap s = .next (t.setRxState .idle) ∧ CommandEffect s t := by
  obtain ⟨t, ht, he⟩ := exec_answers (decodeFrame s.cfg s.frm) s
  exact ⟨t, ht, by simp [dispatchTap, State.tap, h, complete, ht], he⟩

/-- A byte event that answers: the receiver answered `u`, and either `u` is no completed frame and is the answer, or the
command in `u`'s frame registers ran on it. -/
theorem byteEvent_cases {b : Byte} {now : Time} {s t : State} (h : byteEvent b now s = .next t) :
    ∃ u, consumeByte b now s = .next u ∧
      ((u.rxState ≠ .complete ∧ t = u) ∨
        (u.rxState = .complete ∧ ∃ v, exec (decodeFrame u.cfg u.frm) u = .next v ∧ CommandEffect u v ∧
          t = v.setRxState .idle)) := by
  unfold byteEvent at h
  split at h
  · rename_i u hu
    refine ⟨u, hu, ?_⟩
    by_cases hc : u.rxState = .complete
    · obtain ⟨v, hv, hd, he⟩ := dispatchTap_of_complete hc
      exact .inr ⟨hc, v, hv, he, by simpa [hd] using h.symm⟩
    · exact .inl ⟨hc, by simpa [dispatchTap_of_not_complete hc] using h.symm⟩
  · cases h
  · cases h

/-- A step that answers took no event, or the oldest one. -/
theorem step_cases {s t : State} (h : step s = .next t) :
    (s.inputs = [] ∧ t = s) ∨
    (∃ b now rest, s.inputs = .rxByte b now :: rest ∧ byteEvent b now (s.setInputs rest) = .next t) ∨
    (∃ w rest, s.inputs = .hostWrite w :: rest ∧ t = (s.setInputs rest).hostWrite w) ∨
    (∃ f rest, s.inputs = .hostRead f :: rest ∧ t = (s.setInputs rest).hostRead f) ∨
    (∃ r rest, s.inputs = .hostLoad r :: rest ∧ t = (s.setInputs rest).hostLoad r) ∨
    (∃ rest, s.inputs = .reset :: rest ∧ t = (s.setInputs rest).resetEngine) := by
  unfold step at h
  split at h
  · rename_i hi
    exact .inl ⟨hi, by simpa using h.symm⟩
  · rename_i e rest hi
    cases e with
    | rxByte b now => exact .inr (.inl ⟨b, now, rest, hi, h⟩)
    | hostWrite w => exact .inr (.inr (.inl ⟨w, rest, hi, by simpa [runEvent] using h.symm⟩))
    | hostRead f => exact .inr (.inr (.inr (.inl ⟨f, rest, hi, by simpa [runEvent] using h.symm⟩)))
    | hostLoad r => exact .inr (.inr (.inr (.inr (.inl ⟨r, rest, hi, by simpa [runEvent] using h.symm⟩))))
    | reset => exact .inr (.inr (.inr (.inr (.inr ⟨rest, hi, by simpa [runEvent] using h.symm⟩))))

end Sys2Proof.Machine
end

