-- ==== Sys2Proof/Tests/Slice0.lean ====
section
/-! SUPPORT. The model's own tests. Expected values are the spec's: the examples of its rules and the vectors of
spec/95_test_vectors.md (named at each test), none is the model's own answer. First the checks of WellFormed, then decoding,
one step per command, the receiver, the builder and the codec, and last a witness for every statement that has hypotheses. -/

namespace Sys2Proof.Tests

open Sys2Proof.Machine

/-! ### Small states -/

/-- The next state of an outcome, if it is one. -/
def nextOf : Host.Outcome State Fault Refusal → Option State
  | .next s => some s
  | .fault _ => none
  | .refused _ => none

/-- A next state with a decidable property. -/
theorem next_with (P : State → Bool) {o : Host.Outcome State Fault Refusal} (h : (nextOf o).any P = true) :
    ∃ t, o = .next t ∧ P t = true := by
  cases o with
  | next t => exact ⟨t, rfl, h⟩
  | fault _ => cases h
  | refused _ => cases h

theorem answers {o : Host.Outcome State Fault Refusal} (h : (nextOf o).isSome = true) : ∃ t, o = .next t := by
  cases o with
  | next t => exact ⟨t, rfl⟩
  | fault _ => cases h
  | refused _ => cases h

/-- A receiver state with one byte to come, `elapsed` milliseconds after the first sync byte at time 100. -/
def waiting (st : RxState) (hi : Bool) (ix : BitVec 7) (f : Frame) (b : Byte) (elapsed : Time) : State :=
  { State.reset with
    rxState := st, pairHi := hi, rxIndex := ix, tStart := 100#32, frm := f, inputs := [.rxByte b (100#32 + elapsed)] }

/-- Frame registers with a length and no payload. -/
def frame (length : Half) : Frame := { Frame.cleared with length := length }

/-- A frame received up to its checksum byte, with address 0. -/
def received (fc : Half) (payload : List Byte) (s : State) : State := s.awaitChecksum (receivedFrame 0#16 fc payload)

/-- `State.reset` with one event to come. -/
def withEvent (e : Event) : State := { State.reset with inputs := [e] }

/-- The sample record of spec/95_test_vectors.md L1-2. -/
def sampleRecord : Record where
  id := 0x1234#16
  magicNumber := 0x5A4D#16
  cartridgeType := 0#4
  material := 1#4
  red := 0x10#8
  green := 0x20#8
  blue := 0x30#8
  initialLength := 123456#20
  usedLength := 7890#20
  printTemperature := 0x5F#8
  firstLayerTemperature := 0x64#8
  dateCode := 0x1234#16
  xorTrailer := 0xFD#8

def withRecord (r : Record) : State := { State.reset with record := r }

/-- Its image (CD1). -/
def sampleImage : Image :=
  #v[0x5A#8, 0x4D#8, 0x01#8, 0x10#8, 0x20#8, 0x30#8, 0x1E#8, 0x24#8, 0x00#8, 0x1E#8, 0xD2#8, 0x5F#8, 0x64#8, 0x12#8, 0x34#8,
    0xFD#8]

/-! ### WellFormed: each check refuses an ill-formed term -/

theorem test_wf_writeData_has_no_page : (Instr.writeData 0#16 6#8 0#8 0#8 0#8 0#8).wf Config.example0 = false := by decide

theorem test_wf_writeData_has_no_data :
    (Instr.writeData 0#16 0#8 1#8 0#8 0#8 0#8).wf Config.example0 = false ∧
    (Instr.writeData 0#16 0#8 0#8 1#8 0#8 0#8).wf Config.example0 = false ∧
    (Instr.writeData 0#16 0#8 0#8 0#8 1#8 0#8).wf Config.example0 = false ∧
    (Instr.writeData 0#16 0#8 0#8 0#8 0#8 1#8).wf Config.example0 = false := by decide

theorem test_wf_writeOther_is_no_page :
    (Instr.writeOther 0#16 6#8).wf Config.example0 = false ∧ (Instr.writeOther 0#16 7#8).wf Config.example0 = false ∧
    (Instr.writeOther 0#16 8#8).wf Config.example0 = false ∧ (Instr.writeOther 0#16 9#8).wf Config.example0 = false ∧
    (Instr.writeOther 0#16 5#8).wf Config.example0 = true ∧ (Instr.writeOther 0#16 10#8).wf Config.example0 = true := by decide

theorem test_wf_unknown_is_none_of_the_eight :
    (Config.example0.codes.map fun fc => (Instr.unknown 0#16 fc).wf Config.example0) = List.replicate 8 false ∧
    (Instr.unknown 0#16 0x7777#16).wf Config.example0 = true := by decide

/-- R5, R52: the pages make up the image, and the page numbers are 6 to 9. -/
theorem test_pages_fill_the_image :
    (pageLast.toNat - pageFirst.toNat + 1) * pageData = imageLen ∧
    [5#8, 6#8, 7#8, 8#8, 9#8, 10#8].map isPage = [false, true, true, true, true, false] := by decide

/-! ### Decoding: one frame or word for every constructor, written out from R70, R71, R80, R82 and the codes of R86 -/

/-- DS1, bit by bit: sync, rawLen 5, address 0, function code 0x0101, checksum. -/
theorem test_decode_initPort :
    decode Config.example0
      [0b10101010#8, 0b10111011#8, 0b00000101#8, 0b00000000#8, 0b00000000#8, 0b00000000#8, 0b00000001#8, 0b00000001#8,
        0b00000000#8] = .ok (.initPort 0#16, []) := by decide

/-- DS2, bit by bit: rawLen 6, function code 0x010C, one payload byte. -/
theorem test_decode_setAntenna :
    decode Config.example0
      [0b10101010#8, 0b10111011#8, 0b00000110#8, 0b00000000#8, 0b00000000#8, 0b00000000#8, 0b00001100#8, 0b00000001#8,
        0b00000001#8, 0b00001100#8] = .ok (.setAntenna 0#16, []) := by decide

/-- RX20: REQUEST at address 0x1234. -/
theorem test_decode_request :
    decode Config.example0 [0xAA#8, 0xBB#8, 0x05#8, 0x00#8, 0x34#8, 0x12#8, 0x01#8, 0x02#8, 0x25#8] =
      .ok (.request 0x1234#16, []) := by decide

/-- DS10. -/
theorem test_decode_antiColl :
    decode Config.example0 [0xAA#8, 0xBB#8, 0x05#8, 0x00#8, 0xAA#8, 0x00#8, 0x02#8, 0x02#8, 0xAA#8] =
      .ok (.antiColl 0x00AA#16, []) := by decide

/-- RX21: a payload AA BB is data. -/
theorem test_decode_select :
    decode Config.example0 [0xAA#8, 0xBB#8, 0x07#8, 0x00#8, 0x00#8, 0x00#8, 0x03#8, 0x02#8, 0xAA#8, 0xBB#8, 0x10#8] =
      .ok (.select 0#16, []) := by decide

/-- DS6, with the start of another frame behind it (RX22). -/
theorem test_decode_halt :
    decode Config.example0 [0xAA#8, 0xBB#8, 0x05#8, 0x00#8, 0x00#8, 0x00#8, 0x04#8, 0x02#8, 0x06#8, 0xAA#8] =
      .ok (.halt 0#16, [0xAA#8]) := by decide

/-- DS7. -/
theorem test_decode_readData :
    decode Config.example0 [0xAA#8, 0xBB#8, 0x06#8, 0x00#8, 0x00#8, 0x00#8, 0x08#8, 0x02#8, 0x06#8, 0x0C#8] =
      .ok (.readData 0#16, []) := by decide

/-- P5 frame 2: no page byte. -/
theorem test_decode_writeData :
    decode Config.example0 [0xAA#8, 0xBB#8, 0x05#8, 0x00#8, 0x00#8, 0x00#8, 0x13#8, 0x02#8, 0x11#8] =
      .ok (.writeData 0#16 0#8 0#8 0#8 0#8 0#8, []) := by decide

/-- DS8, bit by bit: rawLen 10, function code 0x0213, page 6, data 5A 4D 01 10. -/
theorem test_decode_writeP6 :
    decode Config.example0
      [0b10101010#8, 0b10111011#8, 0b00001010#8, 0b00000000#8, 0b00000000#8, 0b00000000#8, 0b00010011#8, 0b00000010#8,
        0b00000110#8, 0b01011010#8, 0b01001101#8, 0b00000001#8, 0b00010000#8, 0b00010001#8] =
      .ok (.writeP6 0#16 0x5A#8 0x4D#8 0x01#8 0x10#8, []) := by decide

/-- P2 frame 2. -/
theorem test_decode_writeP7 :
    decode Config.example0
      [0xAA#8, 0xBB#8, 0x0A#8, 0x00#8, 0x00#8, 0x00#8, 0x13#8, 0x02#8, 0x07#8, 0x20#8, 0x30#8, 0x1E#8, 0x24#8, 0x3C#8] =
      .ok (.writeP7 0#16 0x20#8 0x30#8 0x1E#8 0x24#8, []) := by decide

/-- P2 frame 3. -/
theorem test_decode_writeP8 :
    decode Config.example0
      [0xAA#8, 0xBB#8, 0x0A#8, 0x00#8, 0x00#8, 0x00#8, 0x13#8, 0x02#8, 0x08#8, 0x00#8, 0x1E#8, 0xD2#8, 0x5F#8, 0x8A#8] =
      .ok (.writeP8 0#16 0x00#8 0x1E#8 0xD2#8 0x5F#8, []) := by decide

/-- P5 frame 4: two bytes too many are ignored. -/
theorem test_decode_writeP9 :
    decode Config.example0
      [0xAA#8, 0xBB#8, 0x0C#8, 0x00#8, 0x00#8, 0x00#8, 0x13#8, 0x02#8, 0x09#8, 0x64#8, 0x12#8, 0x34#8, 0x99#8, 0xFF#8,
        0xFF#8, 0xC3#8] = .ok (.writeP9 0#16 0x64#8 0x12#8 0x34#8 0x99#8, []) := by decide

/-- PG7. -/
theorem test_decode_writeOther :
    decode Config.example0
      [0xAA#8, 0xBB#8, 0x0A#8, 0x00#8, 0x00#8, 0x00#8, 0x13#8, 0x02#8, 0x05#8, 0x01#8, 0x02#8, 0x03#8, 0x04#8, 0x10#8] =
      .ok (.writeOther 0#16 5#8, []) := by decide

/-- RX12. -/
theorem test_decode_unknown :
    decode Config.example0
      [0xAA#8, 0xBB#8, 0x08#8, 0x00#8, 0x01#8, 0x00#8, 0x77#8, 0x77#8, 0xAA#8, 0xBB#8, 0x05#8, 0x15#8] =
      .ok (.unknown 1#16 0x7777#16, []) := by decide

/-- The words of spec/opcode_table.json. -/
theorem test_decodeTableWord :
    [0x0101, 0x010C, 0x0201, 0x0202, 0x0203, 0x0204, 0x0208, 0x0213, 0x7777].map (decodeTableWord 16) =
      [some (.initPort 0#16), some (.setAntenna 0#16), some (.request 0#16), some (.antiColl 0#16), some (.select 0#16),
        some (.halt 0#16), some (.readData 0#16), some (.writeData 0#16 0#8 0#8 0#8 0#8 0#8),
        some (.unknown 0#16 0x7777#16)] := by decide

/-- The pages, with the payload bytes above the function code. -/
theorem test_decodeTableWord_pages :
    decodeTableWord 56 0x10014D5A060213 = some (.writeP6 0#16 0x5A#8 0x4D#8 0x01#8 0x10#8) ∧
    decodeTableWord 24 0x050213 = some (.writeOther 0#16 5#8) := by decide

/-- The step after `withFetchWord` runs the word's command first. -/
theorem test_withFetchWord_runs :
    (nextOf (step (State.reset.withFetchWord 16 0x0201))).map (·.outputs) =
      some [.response [0xAA#8, 0xBB#8, 0x08#8, 0x00#8, 0x00#8, 0x00#8, 0x01#8, 0x02#8, 0x00#8, 0x44#8, 0x00#8, 0x47#8]] := by
  decide

/-- R83: too short, over capacity, wrong sync, cut off. -/
theorem test_decode_rejects :
    decode Config.example0 [0xAA#8, 0xBB#8, 0x04#8, 0x00#8] = .error .lengthUnderflow ∧
    decode Config.example0 [0xAA#8, 0xBB#8, 0x46#8, 0x00#8] = .error .lengthOverCapacity ∧
    decode Config.example0 [0xAA#8, 0xAA#8, 0xBB#8] = .error .badSecondSync ∧
    decode Config.example0 [0xBB#8] = .error .badFirstSync ∧
    decode Config.example0 [0xAA#8, 0xBB#8, 0x05#8, 0x00#8, 0x00#8, 0x00#8, 0x01#8, 0x01#8] = .error .truncated := by decide

/-! ### One step per command (spec/95_test_vectors.md L2.4, L2.5) -/

/-- DS1. -/
theorem test_step_initPort :
    (nextOf (step (received 0x0101#16 [] State.reset))).map (·.outputs) =
      some [.response [0xAA#8, 0xBB#8, 0x06#8, 0x00#8, 0x00#8, 0x00#8, 0x01#8, 0x01#8, 0x00#8, 0x00#8]] := by decide

/-- DS2: no output, Idle again. -/
theorem test_step_setAntenna :
    (nextOf (step (received 0x010C#16 [1#8] State.reset))).map (fun t => (t.outputs, t.rxState)) = some ([], .idle) := by decide

/-- DS3. -/
theorem test_step_request :
    (nextOf (step (received 0x0201#16 [0x52#8] State.reset))).map (·.outputs) =
      some [.response [0xAA#8, 0xBB#8, 0x08#8, 0x00#8, 0x00#8, 0x00#8, 0x01#8, 0x02#8, 0x00#8, 0x44#8, 0x00#8, 0x47#8]] := by
  decide

/-- B14: record id 0xAA01, its high byte escaped. -/
theorem test_step_antiColl :
    (nextOf (step (received 0x0202#16 [] (withRecord { sampleRecord with id := 0xAA01#16 })))).map (·.outputs) =
      some [.response [0xAA#8, 0xBB#8, 0x0A#8, 0x00#8, 0x00#8, 0x00#8, 0x02#8, 0x02#8, 0x00#8, 0x88#8, 0x04#8, 0x00#8, 0xAA#8,
        0x01#8, 0x27#8]] := by decide

/-- DS5. -/
theorem test_step_select :
    (nextOf (step (received 0x0203#16 [0x88#8, 0x04#8, 0x12#8, 0x34#8] State.reset))).map (·.outputs) =
      some [.response [0xAA#8, 0xBB#8, 0x07#8, 0x00#8, 0x00#8, 0x00#8, 0x03#8, 0x02#8, 0x00#8, 0x04#8, 0x05#8]] := by decide

/-- DS6. -/
theorem test_step_halt :
    (nextOf (step (received 0x0204#16 [] State.reset))).map (·.outputs) =
      some [.response [0xAA#8, 0xBB#8, 0x06#8, 0x00#8, 0x00#8, 0x00#8, 0x04#8, 0x02#8, 0x00#8, 0x06#8]] := by decide

/-- DS7. -/
theorem test_step_readData :
    (nextOf (step (received 0x0208#16 [6#8] (withRecord sampleRecord)))).map (·.outputs) =
      some [.response [0xAA#8, 0xBB#8, 0x16#8, 0x00#8, 0x00#8, 0x00#8, 0x08#8, 0x02#8, 0x00#8, 0x5A#8, 0x4D#8, 0x01#8, 0x10#8,
        0x20#8, 0x30#8, 0x1E#8, 0x24#8, 0x00#8, 0x1E#8, 0xD2#8, 0x5F#8, 0x64#8, 0x12#8, 0x34#8, 0xFD#8, 0x0A#8]] := by decide

/-- PG8: page number read as 0. -/
theorem test_step_writeData :
    (nextOf (step (received 0x0213#16 [] (withRecord sampleRecord)))).map (fun t => (t.record, t.outputs)) =
      some (sampleRecord,
        [.response [0xAA#8, 0xBB#8, 0x06#8, 0x00#8, 0x00#8, 0x00#8, 0x13#8, 0x02#8, 0x00#8, 0x11#8]]) := by decide

/-- PG9: the missing data bytes read 0. -/
theorem test_step_writeP6 :
    (nextOf (step (received 0x0213#16 [6#8, 0x11#8] (withRecord sampleRecord)))).map (·.record) =
      some { sampleRecord with magicNumber := 0x1100#16, cartridgeType := 0#4, material := 0#4, red := 0#8 } := by decide

/-- PG3: the low nibble is kept. -/
theorem test_step_writeP7 :
    (nextOf (step (received 0x0213#16 [7#8, 0x20#8, 0x30#8, 0x1E#8, 0x24#8]
        (withRecord { sampleRecord with initialLength := 0x0000A#20, green := 0#8, blue := 0#8 })))).map (·.record) =
      some { sampleRecord with initialLength := 0x1E24A#20 } := by decide

/-- PG4: the split byte. -/
theorem test_step_writeP8 :
    (nextOf (step (received 0x0213#16 [8#8, 0xAB#8, 0xCD#8, 0xEF#8, 0x77#8]
        (withRecord { sampleRecord with initialLength := 0x12345#20, usedLength := 0x00100#20 })))).map (·.record) =
      some { sampleRecord with initialLength := 0x1234A#20, usedLength := 0xBCDEF#20, printTemperature := 0x77#8 } := by decide

/-- PG6: unlimited-filament mode, the Save before the response. -/
theorem test_step_writeP9 :
    (nextOf (step (received 0x0213#16 [9#8, 0x64#8, 0x12#8, 0x34#8, 0xFD#8]
        { withRecord sampleRecord with cfg := { Config.example0 with unlimitedFilament := true } }))).map (·.outputs) =
      some [.save 0 { sampleRecord with usedLength := 0#20 },
        .response [0xAA#8, 0xBB#8, 0x06#8, 0x00#8, 0x00#8, 0x00#8, 0x13#8, 0x02#8, 0x00#8, 0x11#8]] := by decide

/-- PG7. -/
theorem test_step_writeOther :
    (nextOf (step (received 0x0213#16 [5#8, 1#8, 2#8, 3#8, 4#8] (withRecord sampleRecord)))).map
        (fun t => (t.record, t.outputs)) =
      some (sampleRecord,
        [.response [0xAA#8, 0xBB#8, 0x06#8, 0x00#8, 0x00#8, 0x00#8, 0x13#8, 0x02#8, 0x00#8, 0x11#8]]) := by decide

/-- DS9. -/
theorem test_step_unknown :
    (nextOf (step (received 0x7777#16 [0xAA#8, 0xBB#8, 5#8] State.reset))).map (·.outputs) =
      some [.unknownCmd 0x7777#16] := by decide

/-! ### The receiver (L2.3) -/

/-- RX3: a second 0xAA aborts and is consumed. -/
theorem test_rx_second_sync0_aborts :
    (nextOf (step (waiting .start false 0#7 Frame.cleared 0xAA#8 1#32))).map (·.rxState) = some .idle := by decide

/-- RX5, RX6, RX7: raw 69 is the largest accepted; the high byte counts. -/
theorem test_rx_length_limits :
    ((nextOf (step (waiting .length true 0#7 (frame 0x45#16) 0#8 3#32))).map (fun t => (t.rxState, t.frm.length)) =
      some (.address, 64#16)) ∧
    ((nextOf (step (waiting .length true 0#7 (frame 0x46#16) 0#8 3#32))).map (fun t => (t.rxState, t.frm.length)) =
      some (.idle, 70#16)) ∧
    ((nextOf (step (waiting .length true 0#7 (frame 0x05#16) 1#8 3#32))).map (fun t => (t.rxState, t.frm.length)) =
      some (.idle, 261#16)) := by decide

/-- RX9, RX10: 2000 ms is in time, 2001 ms is late. -/
theorem test_rx_timeout_is_strict :
    (nextOf (step (waiting .start false 0#7 Frame.cleared 0xBB#8 2000#32))).map (·.rxState) = some .length ∧
    (nextOf (step (waiting .start false 0#7 Frame.cleared 0xBB#8 2001#32))).map (·.rxState) = some .idle := by decide

/-- RX17, RX18: elapsed time is modular. -/
theorem test_rx_time_wraps :
    let s := fun now : Time =>
      { waiting .start false 0#7 Frame.cleared 0xBB#8 0#32 with tStart := 0xFFFFFF00#32, inputs := [.rxByte 0xBB#8 now] }
    (nextOf (step (s 0x000006D0#32))).map (·.rxState) = some .length ∧
    (nextOf (step (s 0x000006D1#32))).map (·.rxState) = some .idle := by decide

/-- RX11: a late 0xAA in the middle of a pair starts a frame; the stale flag stays until Start clears it. -/
theorem test_rx_late_sync_restarts :
    (nextOf (step (waiting .length true 0#7 (frame 5#16) 0xAA#8 2003#32))).map (fun t => (t.rxState, t.pairHi, t.tStart)) =
      some (.start, true, 2103#32) := by decide

/-- RX13: the 64th payload byte. -/
theorem test_rx_last_payload_byte :
    (nextOf (step (waiting .data false 63#7 (frame 64#16) 0x3F#8 72#32))).map
        (fun t => (t.rxState, t.rxIndex, t.frm.payload)) = some (.checksumSkip, 64#7, [(63, 0x3F#8)]) := by decide

/-! ### Builder and codec (L2.1, L2.2) -/

/-- B5, B6, B8. -/
theorem test_build_escapes :
    build 0#16 0x0208#16 [0xAA#8, 0xAA#8, 0x01#8] =
      [0xAA#8, 0xBB#8, 0x09#8, 0x00#8, 0x00#8, 0x00#8, 0x08#8, 0x02#8, 0x00#8, 0x00#8, 0xAA#8, 0x00#8, 0xAA#8, 0x01#8,
        0x0B#8] ∧
    build 0xAAAA#16 0xAAAA#16 [0xAA#8] =
      [0xAA#8, 0xBB#8, 0x07#8, 0x00#8, 0xAA#8, 0xAA#8, 0xAA#8, 0xAA#8, 0x00#8, 0x00#8, 0xAA#8, 0xAA#8] ∧
    build 0#16 0x0208#16 [0x00#8, 0xAA#8] =
      [0xAA#8, 0xBB#8, 0x08#8, 0x00#8, 0x00#8, 0x00#8, 0x08#8, 0x02#8, 0x00#8, 0x00#8, 0x00#8, 0xAA#8, 0xA0#8] := by decide

/-- CD1, and CD3 for the split byte. -/
theorem test_encode :
    sampleRecord.encode = sampleImage ∧
    (Record.encode { sampleRecord with
      magicNumber := 0#16, material := 0#4, red := 0#8, green := 0#8, blue := 0#8, initialLength := 0xABCDE#20,
      usedLength := 0x12345#20, printTemperature := 0#8, firstLayerTemperature := 0#8, dateCode := 0#16 }).toList =
      [0#8, 0#8, 0#8, 0#8, 0#8, 0#8, 0xAB#8, 0xCD#8, 0xE1#8, 0x23#8, 0x45#8, 0#8, 0#8, 0#8, 0#8, 0xE1#8] := by decide

/-- CD9: a wrong byte 16 is stored and not checked. -/
theorem test_decode_record :
    Record.decode sampleRecord
      #v[0x5A#8, 0x4D#8, 0x12#8, 0x01#8, 0x02#8, 0x03#8, 0xAB#8, 0xCD#8, 0xE1#8, 0x23#8, 0x45#8, 0x50#8, 0x51#8, 0x99#8,
        0x88#8, 0x00#8] =
      { id := 0x1234#16, magicNumber := 0x5A4D#16, cartridgeType := 1#4, material := 2#4, red := 1#8, green := 2#8,
        blue := 3#8, initialLength := 703710#20, usedLength := 74565#20, printTemperature := 0x50#8,
        firstLayerTemperature := 0x51#8, dateCode := 0x9988#16, xorTrailer := 0#8 } := by decide

/-! ### Witnesses: states and operands that meet the hypotheses of each statement together -/

/-- Data, the 64th of 64 payload bytes at exactly 2000 ms. -/
abbrev dataState : State := waiting .data false 63#7 (frame 64#16) 0x3F#8 2000#32

theorem dataState_inv : Inv dataState :=
  ⟨⟨rfl, by decide, by decide, by simp [waiting, frame]⟩, by decide, by decide, rfl⟩

theorem witness_EveryStepKeepsInvariant : Inv dataState ∧ ∃ t, step dataState = .next t :=
  ⟨dataState_inv, answers (by decide)⟩

theorem witness_NoRunFromASoundStateStops : Inv dataState := dataState_inv

theorem witness_PayloadByteOutsideTheBufferFaults :
    let s := waiting .data false 64#7 (frame 65#16) 0#8 2000#32
    s.inputs = [.rxByte 0#8 2100#32] ∧ s.rxState = .data ∧ (2100#32 - s.tStart).toNat ≤ 2000 ∧ 64 ≤ s.rxIndex.toNat := by decide

theorem witness_IdleStartsAFrameAtTheSyncByteOnly :
    let s := fun b => waiting .idle true 5#7 (frame 7#16) b 9000#32
    ((s 0xAA#8).inputs = [.rxByte 0xAA#8 9100#32] ∧ (s 0xAA#8).rxState = .idle) ∧
    ((s 0xBB#8).inputs = [.rxByte 0xBB#8 9100#32] ∧ (s 0xBB#8).rxState = .idle ∧ (0xBB#8 : Byte) ≠ 0xAA#8) := by decide

theorem witness_StartTakesTheSecondSyncByteOrAborts :
    let s := fun b => waiting .start true 0#7 Frame.cleared b 2000#32
    ((s 0xBB#8).inputs = [.rxByte 0xBB#8 2100#32] ∧ (s 0xBB#8).rxState = .start ∧
      (2100#32 - (s 0xBB#8).tStart).toNat ≤ 2000) ∧
    ((s 0xAA#8).inputs = [.rxByte 0xAA#8 2100#32] ∧ (s 0xAA#8).rxState = .start ∧ (0xAA#8 : Byte) ≠ 0xBB#8) := by decide

/-- Two-byte fields: a state of the receiver at its next byte, at exactly 2000 ms. -/
abbrev pairState (st : RxState) (hi : Bool) (length : Half) (b : Byte) : State := waiting st hi 0#7 (frame length) b 2000#32

/-- The hypotheses about the state that the statements on two-byte fields share. -/
abbrev MeetsPair (s : State) (st : RxState) (hi : Bool) (b : Byte) : Prop :=
  s.inputs = [.rxByte b 2100#32] ∧ s.rxState = st ∧ (2100#32 - s.tStart).toNat ≤ 2000 ∧ s.pairHi = hi

theorem pairState_meets (st : RxState) (hi : Bool) (length : Half) (b : Byte) :
    MeetsPair (pairState st hi length b) st hi b :=
  ⟨rfl, rfl, show (2100#32 - 100#32).toNat ≤ 2000 by decide, rfl⟩

theorem witness_LengthLowByteAssigns : MeetsPair (pairState .length false 0#16 0x0A#8) .length false 0x0A#8 :=
  pairState_meets ..

/-- Raw 5 and raw 69. -/
theorem witness_AcceptedLengthIsRawMinusFive :
    (MeetsPair (pairState .length true 5#16 0#8) .length true 0#8 ∧
      ((pairState .length true 5#16 0#8).frm.length ||| ((0#8 : Byte).setWidth 16 <<< 8)).toNat = 5) ∧
    (MeetsPair (pairState .length true 69#16 0#8) .length true 0#8 ∧
      ((pairState .length true 69#16 0#8).frm.length ||| ((0#8 : Byte).setWidth 16 <<< 8)).toNat = 69) :=
  ⟨⟨pairState_meets .., by decide⟩, pairState_meets .., by decide⟩

/-- Raw 0 and raw 4. -/
theorem witness_LengthBelowFiveAborts :
    (MeetsPair (pairState .length true 0#16 0#8) .length true 0#8 ∧
      ((pairState .length true 0#16 0#8).frm.length ||| ((0#8 : Byte).setWidth 16 <<< 8)).toNat < 5) ∧
    (MeetsPair (pairState .length true 4#16 0#8) .length true 0#8 ∧
      ((pairState .length true 4#16 0#8).frm.length ||| ((0#8 : Byte).setWidth 16 <<< 8)).toNat < 5) :=
  ⟨⟨pairState_meets .., by decide⟩, pairState_meets .., by decide⟩

/-- Raw 70 and raw 65535. -/
theorem witness_LengthOverCapacityAborts :
    (MeetsPair (pairState .length true 70#16 0#8) .length true 0#8 ∧
      64 < ((pairState .length true 70#16 0#8).frm.length ||| ((0#8 : Byte).setWidth 16 <<< 8)).toNat - 5) ∧
    (MeetsPair (pairState .length true 255#16 255#8) .length true 255#8 ∧
      64 < ((pairState .length true 255#16 255#8).frm.length ||| ((255#8 : Byte).setWidth 16 <<< 8)).toNat - 5) :=
  ⟨⟨pairState_meets .., by decide⟩, pairState_meets .., by decide⟩

/-- Low byte and high byte. -/
theorem witness_AddressAssemblesLowByteFirst :
    MeetsPair (pairState .address false 5#16 0x34#8) .address false 0x34#8 ∧
      MeetsPair (pairState .address true 5#16 0x12#8) .address true 0x12#8 := ⟨pairState_meets .., pairState_meets ..⟩

/-- Low byte, and high byte with lengths 0 and 64. -/
theorem witness_FunctionCodeAssemblesAndBranchesOnLength :
    MeetsPair (pairState .functionCode false 0#16 0x08#8) .functionCode false 0x08#8 ∧
      (MeetsPair (pairState .functionCode true 0#16 0x02#8) .functionCode true 0x02#8 ∧
        (pairState .functionCode true 0#16 0x02#8).frm.length = 0#16) ∧
      (MeetsPair (pairState .functionCode true 64#16 0x02#8) .functionCode true 0x02#8 ∧
        (pairState .functionCode true 64#16 0x02#8).frm.length = 64#16) :=
  ⟨pairState_meets .., ⟨pairState_meets .., rfl⟩, pairState_meets .., rfl⟩

/-- The last index, and the last payload byte of its frame. -/
theorem witness_DataStoresOneByteAtTheIndex :
    dataState.inputs = [.rxByte 0x3F#8 2100#32] ∧ dataState.rxState = .data ∧ (2100#32 - dataState.tStart).toNat ≤ 2000 ∧
      dataState.rxIndex.toNat < 64 ∧ dataState.frm.payload.wf := by decide

/-- 2001 ms, for a sync byte and another. -/
theorem witness_LateByteAbortsAndIsHandledInIdle :
    ∀ b ∈ [0xAA#8, 0xBB#8],
      let s := waiting .length true 0#7 (frame 5#16) b 2001#32
      s.inputs = [.rxByte b 2101#32] ∧ s.rxState ≠ .idle ∧ 2000 < (2101#32 - s.tStart).toNat := by decide

/-- A late byte and one that is not. -/
theorem witness_ByteEventsFollowTheTransitionTable :
    (let s := waiting .start false 0#7 Frame.cleared 0xBB#8 2001#32
     s.inputs = [.rxByte 0xBB#8 2101#32] ∧ (∃ t, step s = .next t) ∧ Spec.late s 2101#32) ∧
    (let s := waiting .start false 0#7 Frame.cleared 0xBB#8 2000#32
     s.inputs = [.rxByte 0xBB#8 2100#32] ∧ (∃ t, step s = .next t) ∧ ¬ Spec.late s 2100#32) :=
  ⟨⟨rfl, answers (by decide), by decide, by decide⟩, rfl, answers (by decide), fun h => absurd h.2 (by decide)⟩

/-- A REQUEST frame at its checksum byte. -/
abbrev requestState : State := received 0x0201#16 [] State.reset

theorem witness_OnlyTheChecksumByteInTimeTouchesRecordOrOutputs :
    requestState.inputs = [.rxByte 0#8 0#32] ∧
      ∃ t, step requestState = .next t ∧ (t.record ≠ requestState.record ∨ t.outputs ≠ requestState.outputs) := by
  obtain ⟨t, ht, hp⟩ := next_with (fun t => decide (t.outputs ≠ requestState.outputs)) (o := step requestState) (by decide)
  exact ⟨rfl, t, ht, .inr (of_decide_eq_true hp)⟩

theorem witness_IdleRegistersAreUnobservable :
    Spec.SameWhileIdle State.reset { waiting .idle true 5#7 (frame 7#16) 0#8 0#32 with inputs := [] } := by
  simp [Spec.SameWhileIdle, waiting, State.reset, State.resetWith]

theorem witness_AStepRunsTheDecodedInstruction :
    requestState.inputs = [.rxByte 0#8 0#32] ∧ requestState.rxState = .checksumSkip ∧
      (0#32 - requestState.tStart).toNat ≤ 2000 ∧ decodeFrame requestState.cfg requestState.frm = .request 0#16 := by decide

/-- REQUEST with payload 52 (DS3), the last byte at exactly 2000 ms. -/
theorem witness_ADeliveredFrameRunsItsInstruction :
    let later : List (Byte × Time) :=
      [(0xBB#8, 1#32), (0x06#8, 2#32), (0x00#8, 3#32), (0x00#8, 4#32), (0x00#8, 5#32), (0x01#8, 6#32), (0x02#8, 7#32),
        (0x52#8, 8#32), (0x51#8, 2000#32)]
    let s : State :=
      { State.reset with inputs := .rxByte 0xAA#8 0#32 :: (later.map fun p => Event.rxByte p.1 p.2) ++ [.reset] }
    s.rxState = .idle ∧ decode s.cfg (0xAA#8 :: later.map Prod.fst) = .ok (.request 0#16, []) ∧
      ∀ p ∈ later, (p.2 - 0#32).toNat ≤ 2000 := ⟨rfl, by decide, by simp⟩

theorem witness_ResponseEchoesAddressAndFunctionCode :
    ∃ t bytes, step requestState = .next t ∧ t.outputs = requestState.outputs ++ [.response bytes] := by
  obtain ⟨t, ht, hp⟩ := next_with
    (fun t => t.outputs = [.response [0xAA#8, 0xBB#8, 0x08#8, 0x00#8, 0x00#8, 0x00#8, 0x01#8, 0x02#8, 0x00#8, 0x44#8, 0x00#8,
      0x47#8]]) (o := step requestState) (by decide)
  exact ⟨t, _, ht, of_decide_eq_true hp⟩

theorem witness_CommandsKeepReceiverBufferAndUnlessPagesRecord :
    (∃ t, exec (.readData 0#16) State.reset = .next t) ∧ Spec.NoPage (.readData 0#16) := ⟨answers (by decide), trivial⟩

/-- Pages 6 and 9. -/
theorem witness_PageWriteStoresItsFourImageBytes :
    State.reset.cfg.unlimitedFilament = false ∧
    (∃ t, exec (.writeData 0#16 6#8 1#8 2#8 3#8 4#8) State.reset = .next t) ∧
    (∃ t, exec (.writeData 0#16 9#8 1#8 2#8 3#8 4#8) State.reset = .next t) :=
  ⟨rfl, answers (by decide), answers (by decide)⟩

/-- A page-9 write at its checksum byte. -/
theorem witness_OneStepEmitsAtMostOneResponseAndOneSave :
    ∃ t, step (received 0x0213#16 [9#8, 1#8] State.reset) = .next t ∧
      ((t.outputs.filter Spec.isSave).length = 1 ∧ (t.outputs.filter Spec.isResponse).length = 1) := by
  obtain ⟨t, ht, hp⟩ := next_with
    (fun t => decide ((t.outputs.filter Spec.isSave).length = 1 ∧ (t.outputs.filter Spec.isResponse).length = 1))
    (o := step (received 0x0213#16 [9#8, 1#8] State.reset)) (by decide)
  exact ⟨t, ht, of_decide_eq_true hp⟩

theorem witness_ConfigurationAndIdNeverChange :
    (∃ t, step requestState = .next t) ∧ requestState.record.id = requestState.cfg.slotId :=
  ⟨answers (by decide), rfl⟩

theorem witness_ResponseIsLongerThanItsLengthFieldByTheEscapes : (List.replicate 64 0xAA#8).length ≤ 64 := by decide

theorem witness_BuilderIsInjectiveForALength :
    ([0xAA#8, 0#8] : List Byte).length ≤ 64 ∧ build 1#16 2#16 [0xAA#8, 0#8] = build 1#16 2#16 [0xAA#8, 0#8] := by decide

/-- The pages in the order 9, 7, 8, 6. -/
theorem witness_FourPagesInAnyOrderAreTheDecoder (m : Image) :
    [Record.page9 m[12] m[13] m[14] m[15], Record.page7 m[4] m[5] m[6] m[7], Record.page8 m[8] m[9] m[10] m[11],
      Record.page6 m[0] m[1] m[2] m[3]].Perm
    [Record.page6 m[0] m[1] m[2] m[3], Record.page7 m[4] m[5] m[6] m[7], Record.page8 m[8] m[9] m[10] m[11],
      Record.page9 m[12] m[13] m[14] m[15]] :=
  (List.perm_append_comm (l₁ := [_, _, _]) (l₂ := [_])).trans
    (.cons _ (List.perm_append_comm (l₁ := [_]) (l₂ := [_, _])))

theorem witness_FullWriteThenReadReturnsTheImage :
    ∃ s6 s7 s8 s9, exec (.writeP6 0#16 0x5A#8 0x4D#8 0x01#8 0x10#8) State.reset = .next s6 ∧
      exec (.writeP7 0#16 0x20#8 0x30#8 0x1E#8 0x24#8) s6 = .next s7 ∧
      exec (.writeP8 0#16 0x00#8 0x1E#8 0xD2#8 0x5F#8) s7 = .next s8 ∧
      exec (.writeP9 0#16 0x64#8 0x12#8 0x34#8 0xFD#8) s8 = .next s9 := ⟨_, _, _, _, rfl, rfl, rfl, rfl⟩

theorem witness_DecodeOfEncodeGivesTheInstructionBack :
    Config.example0.Distinct ∧ (Instr.writeOther 0xFFFF#16 10#8).wf Config.example0 = true ∧
      (Instr.unknown 1#16 0x7777#16).wf Config.example0 = true := by decide

theorem witness_EveryLegalFrameDecodesWhateverItsChecksum : (List.replicate 64 0#8).length ≤ 64 := by decide

/-- Raw 4 and raw 70. -/
theorem witness_IllegalFramesAreRejectedByName :
    (0xBB#8 : Byte) ≠ 0xAA#8 ∧ (0xAA#8 : Byte) ≠ 0xBB#8 ∧ (4#8).toNat + 256 * (0#8).toNat < 5 ∧
      69 < (70#8).toNat + 256 * (0#8).toNat := by decide

theorem witness_FunctionCodeSelectsTheCommand :
    Config.example0.Distinct ∧ 0x7777#16 ∉ Config.example0.codes := by decide

theorem witness_HostWriteSetsOneField :
    (withEvent (.hostWrite (.usedLength 0xFFFFF#20))).inputs = [.hostWrite (.usedLength 0xFFFFF#20)] := rfl

theorem witness_HostReadHandsOutTheField :
    (withEvent (.hostRead .initialLength)).inputs = [.hostRead .initialLength] := rfl

theorem witness_HostLoadReplacesAllButTheId :
    (withEvent (.hostLoad { sampleRecord with id := 0xFFFF#16 })).inputs =
      [.hostLoad { sampleRecord with id := 0xFFFF#16 }] := rfl

theorem witness_ResetEventRestoresConstruction :
    ({ dataState with inputs := [.reset] } : State).inputs = [.reset] := rfl

end Sys2Proof.Tests
end

section
/-! The byte event read through the receiver's action: what a step is on a byte that is in time (spec/40_frame_receiver.md
R100, R101, R110), and with it the Data state's store and its fault. -/

namespace Sys2Proof.Machine

/-- R101: on a byte in time `consumeByte` is the action of the state. -/
theorem consumeByte_inTime {now : Time} {s : State} (ht : (now - s.tStart).toNat ≤ rxTimeout) (b : Byte) :
    consumeByte b now s = rxAction b now s := by
  rw [consumeByte, timeoutCheck_inTime ht]

theorem rxAction_data {s : State} (hs : s.rxState = .data) (b : Byte) (now : Time) : rxAction b now s = rxData b s := by
  simp only [rxAction, hs]

theorem rxData_of_ge {s : State} (h : payloadCap ≤ s.rxIndex.toNat) (b : Byte) :
    rxData b s = .fault .payloadIndexOutOfRange := by
  simp only [rxData, State.storePayload, if_neg (Nat.not_lt.2 h)]

theorem byteEvent_of_next {b : Byte} {now : Time} {s u : State} (h : consumeByte b now s = .next u) :
    byteEvent b now s = dispatchTap u := by
  simp only [byteEvent, h]

theorem byteEvent_of_fault {b : Byte} {now : Time} {s : State} {r : Fault} (h : consumeByte b now s = .fault r) :
    byteEvent b now s = .fault r := by
  simp only [byteEvent, h]

theorem consumeByte_data {s : State} {now : Time} (hs : s.rxState = .data) (ht : (now - s.tStart).toNat ≤ rxTimeout)
    (b : Byte) : consumeByte b now s = rxData b s :=
  (consumeByte_inTime ht b).trans (rxAction_data hs b now)

theorem byteEvent_data_of_ge {s : State} {now : Time} (hs : s.rxState = .data) (ht : (now - s.tStart).toNat ≤ rxTimeout)
    (hi : payloadCap ≤ s.rxIndex.toNat) (b : Byte) : byteEvent b now s = .fault .payloadIndexOutOfRange :=
  byteEvent_of_fault ((consumeByte_data hs ht b).trans (rxData_of_ge hi b))

/-- R110 as an exact next state: the byte stored at `rx_index`, then counted. -/
theorem byteEvent_data_of_lt {s : State} {now : Time} (hs : s.rxState = .data) (ht : (now - s.tStart).toNat ≤ rxTimeout)
    (hi : s.rxIndex.toNat < payloadCap) (b : Byte) :
    byteEvent b now s = .next { s with
      rxIndex := s.rxIndex + 1#7,
      rxState := if s.rxIndex.toNat + 1 = s.frm.length.toNat then .checksumSkip else .data,
      frm := { s.frm with payload := s.frm.payload.write s.rxIndex.toNat b } } := by
  have stored := (consumeByte_data hs ht b).trans (rxData_of_lt hi b)
  simp only [countPayloadByte_eq, State.setFrm_rxIndex, State.setFrm_frm, State.setFrm_rxState, rxIndex_succ hi, hs] at stored
  rw [byteEvent_of_next stored, dispatchTap_of_not_complete]
  · rfl
  · dsimp only
    split <;> decide

/-- Settles O5: in Data the step is the receiver's store, which refuses the index. -/
theorem payloadByteOutsideTheBufferFaults : Obligations.PayloadByteOutsideTheBufferFaults := by
  intro s b now rest hin hs ht hi
  exact (step_of_cons hin).trans (byteEvent_data_of_ge (s := s.setInputs rest) hs ht hi b)

/-- Settles O15, from the exact next state and the buffer's read-after-write laws. -/
theorem dataStoresOneByteAtTheIndex : Obligations.DataStoresOneByteAtTheIndex := by
  intro s b now rest hin hs ht hi hwf
  have next := (step_of_cons hin).trans (byteEvent_data_of_lt (s := s.setInputs rest) hs ht hi b)
  exact ⟨_, next, Memory.read_write_same hwf.1 _ b, fun _ hne => Memory.read_write_other _ b hne,
    rxIndex_succ hi, rfl, rfl⟩

end Sys2Proof.Machine
end

section
/-! Every state action of the receiver, every command and every host event keeps the invariant (spec/40_frame_receiver.md
R116, R117). Complete is no resting state, so the receiver's own action is followed up to `Settles`. -/

namespace Sys2Proof.Machine

section Receiver

variable {s t : State} {b : Byte} {now : Time}

/-! ### Changes the invariant does not see -/

/-- The invariant reads the sequencing registers, the frame registers, the record's id and the configuration only. -/
theorem Inv.congr (h : Inv s) (rx : t.rxState = s.rxState) (pair : t.pairHi = s.pairHi) (index : t.rxIndex = s.rxIndex)
    (frm : t.frm = s.frm) (id : t.record.id = s.record.id) (cfg : t.cfg = s.cfg) : Inv t where
  phase := by simpa only [State.phaseOk, rx, pair, index, frm] using h.phase
  memory := frm ▸ h.memory
  index := index ▸ h.index
  id := by rw [id, cfg, h.id]

/-- In Idle the registers are free (R26), so a sound state may go there from anywhere. -/
theorem Inv.toIdle (h : Inv s) (rx : t.rxState = .idle) (index : t.rxIndex = s.rxIndex)
    (payload : t.frm.payload = s.frm.payload) (id : t.record.id = s.record.id) (cfg : t.cfg = s.cfg) : Inv t where
  phase := by simp only [State.phaseOk, rx]
  memory := payload ▸ h.memory
  index := index ▸ h.index
  id := by rw [id, cfg, h.id]

theorem Inv.setInputs (h : Inv s) (rest : List Event) : Inv (s.setInputs rest) := h.congr rfl rfl rfl rfl rfl rfl

theorem Inv.setRecord (h : Inv s) {r : Record} (hr : r.id = s.record.id) : Inv (s.setRecord r) :=
  h.congr rfl rfl rfl rfl hr rfl

theorem Inv.framingAbort (h : Inv s) (c : AbortCause) : Inv (s.framingAbort c) := h.toIdle rfl rfl rfl rfl rfl

theorem Inv.timeoutCheck (h : Inv s) (now : Time) : Inv (s.timeoutCheck now) := by
  unfold State.timeoutCheck
  split
  · exact h.framingAbort .rxTimeout
  · exact h

/-! ### Pair assembly -/

theorem pairLow_toNat_lt (b : Byte) : (pairLow b).toNat < 256 := by
  simp only [pairLow, BitVec.toNat_setWidth]
  omega

/-! ### One lemma per state action -/

theorem rxIdle_keeps (h : Inv s) : Inv (rxIdle b now s) := by
  unfold rxIdle
  split
  · exact ⟨by simp [State.phaseOk], Memory.empty_wf, Nat.zero_le _, h.id⟩
  · exact h

theorem rxStart_keeps (h : Inv s) (hs : s.rxState = .start) : Inv (rxStart b s) := by
  have phase := h.phase
  simp only [State.phaseOk, hs] at phase
  obtain ⟨frm, index⟩ := phase
  unfold rxStart
  split
  · refine ⟨?_, h.memory, h.index, h.id⟩
    simp [State.phaseOk, frm, index]
  · exact h.framingAbort .badSecondSync

theorem rxLengthLow_keeps (h : Inv s) (hs : s.rxState = .length) : Inv (rxLengthLow b s) := by
  have phase := h.phase
  simp only [State.phaseOk, hs] at phase
  obtain ⟨index, address, code, payload, -, -⟩ := phase
  refine ⟨?_, h.memory, h.index, h.id⟩
  simp [State.phaseOk, rxLengthLow, hs, index, address, code, payload, pairLow_toNat_lt]

theorem rxLengthHigh_keeps (h : Inv s) (hs : s.rxState = .length) : Inv (rxLengthHigh b s) := by
  have phase := h.phase
  simp only [State.phaseOk, hs] at phase
  obtain ⟨index, address, code, payload, -, -⟩ := phase
  rcases Nat.lt_or_ge (pairHigh s.frm.length b).toNat 5 with under | atLeast
  · rw [rxLengthHigh_under under]
    exact h.toIdle rfl rfl rfl rfl rfl
  rcases Nat.lt_or_ge 69 (pairHigh s.frm.length b).toNat with atLeast70 | atMost
  · rw [rxLengthHigh_over (by omega)]
    exact h.toIdle rfl rfl rfl rfl rfl
  · rw [rxLengthHigh_ok atLeast atMost]
    have length : (payloadLength (pairHigh s.frm.length b)).toNat ≤ payloadCap := by
      rw [payloadLength_toNat atLeast]
      exact Nat.sub_le_of_le_add atMost
    refine ⟨?_, h.memory, h.index, h.id⟩
    simp [State.phaseOk, index, address, code, payload, length]

theorem rxAddress_keeps (h : Inv s) (hs : s.rxState = .address) : Inv (rxAddress b s) := by
  have phase := h.phase
  simp only [State.phaseOk, hs] at phase
  obtain ⟨index, code, payload, length, -, -⟩ := phase
  unfold rxAddress
  split
  · refine ⟨?_, h.memory, h.index, h.id⟩
    simp [State.phaseOk, index, code, payload, length]
  · refine ⟨?_, h.memory, h.index, h.id⟩
    simp [State.phaseOk, hs, index, code, payload, length, pairLow_toNat_lt]

theorem rxFunctionCode_keeps (h : Inv s) (hs : s.rxState = .functionCode) : Inv (rxFunctionCode b s) := by
  have phase := h.phase
  simp only [State.phaseOk, hs] at phase
  obtain ⟨index, payload, length, -, -⟩ := phase
  unfold rxFunctionCode
  split
  · refine ⟨?_, h.memory, Nat.zero_le _, h.id⟩
    by_cases empty : s.frm.length = 0#16
    · simp [State.phaseOk, empty, payload]
    · have : 0 < s.frm.length.toNat := by bv_omega
      simp [State.phaseOk, empty, payload, length, this]
  · refine ⟨?_, h.memory, h.index, h.id⟩
    simp [State.phaseOk, hs, index, payload, length, pairLow_toNat_lt]

/-- A sound state in Data has room for the byte. -/
theorem Inv.rxIndex_lt (h : Inv s) (hs : s.rxState = .data) : s.rxIndex.toNat < payloadCap := by
  have phase := h.phase
  simp only [State.phaseOk, hs] at phase
  obtain ⟨-, inside, length, -⟩ := phase
  exact Nat.lt_of_lt_of_le inside length

/-- After a write at an index above every listed cell, every listed cell is below the next index. -/
theorem Memory.write_lt_succ {m : Memory} {i : Nat} (below : ∀ c ∈ m, c.1 < i) (v : Byte) :
    ∀ c ∈ m.write i v, c.1 < i + 1 := by
  intro c hc
  rcases Memory.mem_write hc with old | ⟨rfl, -⟩
  · exact Nat.lt_succ_of_lt (below c old)
  · exact Nat.lt_succ_self i

theorem rxData_keeps (h : Inv s) (hs : s.rxState = .data) (ht : rxData b s = .next t) : Inv t := by
  have phase := h.phase
  simp only [State.phaseOk, hs] at phase
  obtain ⟨pair, inside, length, below⟩ := phase
  obtain ⟨room, rfl⟩ := rxData_next ht
  have count := rxIndex_succ room
  have below' := Memory.write_lt_succ below b
  rw [countPayloadByte_eq]
  refine ⟨?_, Memory.write_wf h.memory room b, count.trans_le room, h.id⟩
  by_cases done : s.rxIndex.toNat + 1 = s.frm.length.toNat
  · simp only [State.phaseOk, State.setFrm_rxIndex, State.setFrm_frm, State.setFrm_pairHi, count, done, if_true]
    exact ⟨pair, trivial, length, done ▸ below'⟩
  · simp only [State.phaseOk, State.setFrm_rxIndex, State.setFrm_frm, State.setFrm_pairHi, State.setFrm_rxState, hs, count,
      done, if_false]
    exact ⟨pair, by omega, length, below'⟩

/-- What the receiver leaves for dispatch: a sound state, or a completed frame that is sound once the receiver is Idle. -/
def Settles (t : State) : Prop := Inv t ∨ (t.rxState = .complete ∧ Inv (t.setRxState .idle))

theorem rxAction_settles (h : Inv s) (ht : rxAction b now s = .next t) : Settles t := by
  unfold rxAction at ht
  split at ht
  case h_1 => cases ht; exact .inl (rxIdle_keeps h)
  case h_2 hs => cases ht; exact .inl (rxStart_keeps h hs)
  case h_3 hs =>
    cases ht
    split
    · exact .inl (rxLengthHigh_keeps h hs)
    · exact .inl (rxLengthLow_keeps h hs)
  case h_4 hs => cases ht; exact .inl (rxAddress_keeps h hs)
  case h_5 hs => cases ht; exact .inl (rxFunctionCode_keeps h hs)
  case h_6 hs => exact .inl (rxData_keeps h hs ht)
  case h_7 => cases ht; exact .inr ⟨rfl, h.toIdle rfl rfl rfl rfl rfl⟩
  case h_8 hs => exact absurd h.phase (by simp [State.phaseOk, hs])

/-! ### Events -/

theorem CommandEffect.keeps_idle {u v : State} (he : CommandEffect u v) (h : Inv (u.setRxState .idle)) :
    Inv (v.setRxState .idle) := by
  obtain ⟨r, new, hid, rfl⟩ := he
  exact h.congr rfl rfl rfl rfl hid rfl

theorem Inv.rxState_ne_complete (h : Inv s) : s.rxState ≠ .complete := fun hs => by
  simpa [State.phaseOk, hs] using h.phase

theorem byteEvent_keeps (h : Inv s) (ht : byteEvent b now s = .next t) : Inv t := by
  obtain ⟨u, hu, hcase⟩ := byteEvent_cases ht
  rcases rxAction_settles (h.timeoutCheck now) hu with sound | ⟨complete, sound⟩
  · rcases hcase with ⟨-, rfl⟩ | ⟨complete, -⟩
    · exact sound
    · exact absurd complete sound.rxState_ne_complete
  · rcases hcase with ⟨resting, -⟩ | ⟨-, v, -, effect, rfl⟩
    · exact absurd complete resting
    · exact effect.keeps_idle sound

theorem hostWrite_id (r : Record) (w : HostWrite) : (r.hostWrite w).id = r.id := by cases w <;> rfl

theorem resetEngine_sound (s : State) : Inv s.resetEngine :=
  ⟨trivial, Memory.empty_wf, Nat.zero_le _, rfl⟩

/-! ### A sound state answers -/

theorem rxAction_answers (h : Inv s) (b : Byte) (now : Time) : ∃ u, rxAction b now s = .next u := by
  by_cases hs : s.rxState = .data
  · exact ⟨_, (rxAction_data hs b now).trans (rxData_of_lt (h.rxIndex_lt hs) b)⟩
  · unfold rxAction
    split
    case h_6 hd => exact absurd hd hs
    all_goals exact ⟨_, rfl⟩

theorem dispatchTap_answers (u : State) : ∃ t, dispatchTap u = .next t := by
  by_cases hc : u.rxState = .complete
  · obtain ⟨v, -, dispatched, -⟩ := dispatchTap_of_complete hc
    exact ⟨_, dispatched⟩
  · exact ⟨u, dispatchTap_of_not_complete hc⟩

theorem byteEvent_answers (h : Inv s) (b : Byte) (now : Time) : ∃ t, byteEvent b now s = .next t := by
  obtain ⟨u, hu⟩ := rxAction_answers (h.timeoutCheck now) b now
  obtain ⟨t, ht⟩ := dispatchTap_answers u
  exact ⟨t, (byteEvent_of_next hu).trans ht⟩

theorem step_answers (h : Inv s) : ∃ t, step s = .next t := by
  cases hin : s.inputs with
  | nil => exact ⟨s, step_of_nil hin⟩
  | cons e rest =>
    rw [step_of_cons hin]
    cases e with
    | rxByte b now => exact byteEvent_answers (h.setInputs rest) b now
    | hostWrite w => exact ⟨_, rfl⟩
    | hostRead f => exact ⟨_, rfl⟩
    | hostLoad r => exact ⟨_, rfl⟩
    | reset => exact ⟨_, rfl⟩

theorem run_succ_of_step (hst : step s = .next t) (n : Nat) :
    Host.Core.run core (n + 1) s = Host.Core.run core n t := by
  have coreStep : core.step s = .next t := hst
  simp only [Host.Core.run, coreStep]

end Receiver

/-- Settles O3: one case per kind of event. -/
theorem everyStepKeepsInvariant : Obligations.EveryStepKeepsInvariant := by
  intro s t h hstep
  obtain ⟨-, rfl⟩ | ⟨b, now, rest, -, hbyte⟩ | ⟨w, rest, -, rfl⟩ | ⟨f, rest, -, rfl⟩ | ⟨r, rest, -, rfl⟩ | ⟨rest, -, rfl⟩ :=
    step_cases hstep
  · exact h
  · exact byteEvent_keeps (h.setInputs rest) hbyte
  · exact (h.setInputs rest).setRecord (hostWrite_id _ w)
  · exact h.congr rfl rfl rfl rfl rfl rfl
  · exact (h.setInputs rest).setRecord rfl
  · exact resetEngine_sound _

/-- Settles O4, by induction on the number of steps: a sound state answers, and the answer is sound. -/
theorem noRunFromASoundStateStops : Obligations.NoRunFromASoundStateStops := by
  intro n
  induction n with
  | zero => exact fun s h => ⟨s, rfl, h⟩
  | succ n ih =>
    intro s h
    obtain ⟨t, hst⟩ := step_answers h
    obtain ⟨u, hrun, hu⟩ := ih t (everyStepKeepsInvariant s t h hst)
    exact ⟨u, (run_succ_of_step hst n).trans hrun, hu⟩

end Sys2Proof.Machine
end

section
/-! A page write seen in the record image (spec/43_page_write.md R170 to R174, spec/42_record_codec.md R150): each page
replaces four bytes of the image's body. -/

namespace Sys2Proof.Machine

/-! ### Slices of the values a page assembles -/

@[simp] theorem highByte_pairBE (hi lo : Byte) : highByte (pairBE hi lo) = hi := BitVec.extractLsb'_append_eq_left

@[simp] theorem lowByte_pairBE (hi lo : Byte) : lowByte (pairBE hi lo) = lo := BitVec.extractLsb'_append_eq_right

@[simp] theorem nibbles_append (b : Byte) : b.extractLsb' 4 4 ++ b.extractLsb' 0 4 = b :=
  BitVec.extractLsb'_append_extractLsb'

@[simp] theorem byteByteNibble_byte1 (a b : Byte) (c : Nibble) : (a ++ b ++ c : Len20).extractLsb' 12 8 = a :=
  (BitVec.extractLsb'_append_eq_of_le (xhi := a ++ b) (xlo := c) (by decide)).trans BitVec.extractLsb'_append_eq_left

@[simp] theorem byteByteNibble_byte2 (a b : Byte) (c : Nibble) : (a ++ b ++ c : Len20).extractLsb' 4 8 = b :=
  (BitVec.extractLsb'_append_eq_of_le (xhi := a ++ b) (xlo := c) (by decide)).trans BitVec.extractLsb'_append_eq_right

@[simp] theorem nibbleByteByte_nibble (a : Nibble) (b c : Byte) : (a ++ b ++ c : Len20).extractLsb' 16 4 = a :=
  (BitVec.extractLsb'_append_eq_of_le (xhi := a ++ b) (xlo := c) (by decide)).trans BitVec.extractLsb'_append_eq_left

@[simp] theorem nibbleByteByte_byte1 (a : Nibble) (b c : Byte) : (a ++ b ++ c : Len20).extractLsb' 8 8 = b :=
  (BitVec.extractLsb'_append_eq_of_le (xhi := a ++ b) (xlo := c) (by decide)).trans BitVec.extractLsb'_append_eq_right

@[simp] theorem append_nibble_low (a : BitVec 16) (b : Nibble) : (a ++ b : Len20).extractLsb' 0 4 = b :=
  BitVec.extractLsb'_append_eq_right

@[simp] theorem append_byte_low (a : BitVec 12) (b : Byte) : (a ++ b : Len20).extractLsb' 0 8 = b :=
  BitVec.extractLsb'_append_eq_right

/-- A length read from bit 4 on does not depend on what stands in its low nibble. -/
theorem upper_append_extract (l : Len20) (x : Nibble) {start : Nat} (h : 4 ≤ start) (len : Nat) :
    (l.extractLsb' 4 16 ++ x : Len20).extractLsb' start len = l.extractLsb' start len :=
  have whole : (l.extractLsb' 4 16 ++ l.extractLsb' 0 4 : Len20) = l := BitVec.extractLsb'_append_extractLsb'
  calc (l.extractLsb' 4 16 ++ x : Len20).extractLsb' start len
      = (l.extractLsb' 4 16).extractLsb' (start - 4) len := BitVec.extractLsb'_append_eq_of_le h
    _ = (l.extractLsb' 4 16 ++ l.extractLsb' 0 4 : Len20).extractLsb' start len :=
        (BitVec.extractLsb'_append_eq_of_le h).symm
    _ = l.extractLsb' start len := by rw [whole]

/-- A store of four bytes into the image's body: byte `k` of `new` is the stored one inside the four, and that of `old`
elsewhere. -/
def StoresFour (o : Nat) (d : Vector Byte 4) (old new : Vector Byte 15) : Prop :=
  ∀ (k : Nat) (hk : k < 15), new[k] = if h : o ≤ k ∧ k < o + 4 then d[k - o] else old[k]

theorem page6_storesFour (d : Vector Byte 4) (r : Record) :
    StoresFour 0 d r.body (r.page6 d[0] d[1] d[2] d[3]).body := by
  intro k hk
  interval_cases k <;> simp [Record.body, Record.page6]

theorem page7_storesFour (d : Vector Byte 4) (r : Record) :
    StoresFour 4 d r.body (r.page7 d[0] d[1] d[2] d[3]).body := by
  intro k hk
  interval_cases k <;> simp [Record.body, Record.page7]

theorem page8_storesFour (d : Vector Byte 4) (r : Record) :
    StoresFour 8 d r.body (r.page8 d[0] d[1] d[2] d[3]).body := by
  intro k hk
  interval_cases k <;> simp [Record.body, Record.page8, upper_append_extract]

theorem page9_storesFour (d : Vector Byte 4) (r : Record) :
    StoresFour 12 d r.body (r.page9 d[0] d[1] d[2] d[3]).body := by
  intro k hk
  interval_cases k <;> simp [Record.body, Record.page9]

/-- The bytes of a page write land in the image at the page's place (R52, decision D11), byte 16 apart. -/
theorem StoresFour.encode {o : Nat} {d : Vector Byte 4} {r r' : Record} (h : StoresFour o d r.body r'.body)
    (k : Nat) (hk : k < 15) :
    r'.encode[k]'(Nat.lt_succ_of_lt hk) =
      if hin : o ≤ k ∧ k < o + 4 then d[k - o] else r.encode[k]'(Nat.lt_succ_of_lt hk) := by
  rw [Record.encode_get r' k hk, Record.encode_get r k hk]
  exact h k hk

theorem execWriteData_record {a : Half} {page d1 d2 d3 d4 : Byte} {s t : State}
    (h : exec (.writeData a page d1 d2 d3 d4) s = .next t) : t.record = (s.writePage page d1 d2 d3 d4).record := by
  cases h
  rfl

theorem writePage9_record_of_limited {s : State} (h : s.cfg.unlimitedFilament = false) (d1 d2 d3 d4 : Byte) :
    (s.writePage9 d1 d2 d3 d4).record = s.record.page9 d1 d2 d3 d4 := by
  change (s.record.page9 d1 d2 d3 d4).unlimitedReset s.cfg.unlimitedFilament = _
  rw [h]
  rfl

/-- A page write of pages 6 to 9 is a store of four bytes at `4 * (p - 6)` of the body. -/
theorem writePage_storesFour (d : Vector Byte 4) (s : State) {p : Nat} (h6 : 6 ≤ p) (h9 : p ≤ 9)
    (limited : p = 9 → s.cfg.unlimitedFilament = false) :
    StoresFour (4 * (p - 6)) d s.record.body (s.writePage (BitVec.ofNat 8 p) d[0] d[1] d[2] d[3]).record.body := by
  obtain rfl | rfl | rfl | rfl : p = 6 ∨ p = 7 ∨ p = 8 ∨ p = 9 := by omega
  · exact page6_storesFour d s.record
  · exact page7_storesFour d s.record
  · exact page8_storesFour d s.record
  · exact (writePage9_record_of_limited (limited rfl) d[0] d[1] d[2] d[3]).symm ▸ page9_storesFour d s.record

/-- Settles O37, from the store each page makes in the body. -/
theorem pageWriteStoresItsFourImageBytes : Obligations.PageWriteStoresItsFourImageBytes := by
  intro a p d s t h6 h9 limited hexec k hk
  have store := writePage_storesFour d s h6 h9 limited
  rw [← execWriteData_record hexec] at store
  exact store.encode k hk

end Sys2Proof.Machine
end

section
/-! Pair assembly as arithmetic (spec/30_encoding.md R71, spec/40_frame_receiver.md R104). -/

namespace Sys2Proof.Machine

/-- Law 1 of R12: the two bytes do not overlap, so their `|` is a sum. -/
theorem toNat_pairLE (l h : Byte) : (pairLE l h).toNat = l.toNat + 256 * h.toNat := by
  have hl : l.toNat < 2 ^ 8 := l.isLt
  have hh : h.toNat < 2 ^ 8 := h.isLt
  have low : l.toNat % 2 ^ 16 = l.toNat := by omega
  have high : (h.toNat % 2 ^ 16) <<< 8 % 2 ^ 16 = h.toNat <<< 8 := by
    simp only [Nat.shiftLeft_eq]
    omega
  calc (pairLE l h).toNat
      = l.toNat ||| h.toNat <<< 8 := by
        rw [pairLE, BitVec.toNat_or, BitVec.toNat_shiftLeft, BitVec.toNat_setWidth, BitVec.toNat_setWidth, low, high]
    _ = h.toNat <<< 8 + l.toNat := by rw [Nat.or_comm, Nat.shiftLeft_add_eq_or_of_lt hl]
    _ = l.toNat + 256 * h.toNat := by
        rw [Nat.shiftLeft_eq]
        omega

/-- The receiver assembles a pair in two halves as the decoder does in one. -/
theorem pairHigh_pairLow (l h : Byte) : pairHigh (pairLow l) h = pairLE l h := rfl

/-- Settles O14: the three forms are one value, and its bytes do not overlap. -/
theorem pairAssemblyIsLittleEndian : Obligations.PairAssemblyIsLittleEndian := by
  intro l h
  exact ⟨toNat_pairLE l h, pairHigh_pairLow l h ▸ toNat_pairLE l h, toNat_pairLE l h⟩

end Sys2Proof.Machine
end

section
/-! The response builder's loop in closed form, and its checksum (spec/44_response_builder.md R189, R191, R192;
spec/30_encoding.md R78). -/

namespace Sys2Proof.Machine

/-! ### The spec's bytes and exclusive or -/

@[simp] theorem lo_eq_lowByte (v : Half) : Spec.lo v = lowByte v := BitVec.setWidth_eq_extractLsb' (by decide)

@[simp] theorem hi_eq_highByte (v : Half) : Spec.hi v = highByte v := rfl

@[simp] theorem xorAll_nil : Spec.xorAll [] = 0#8 := rfl

/-- The running exclusive or: the start value can be taken out of the fold. -/
theorem foldl_xor_eq (x : Byte) (l : List Byte) : l.foldl (· ^^^ ·) x = x ^^^ Spec.xorAll l :=
  (congrArg (l.foldl (· ^^^ ·)) BitVec.xor_zero.symm).trans List.foldl_assoc

@[simp] theorem xorAll_cons (b : Byte) (l : List Byte) : Spec.xorAll (b :: l) = b ^^^ Spec.xorAll l := by
  rw [← foldl_xor_eq, Spec.xorAll, List.foldl_cons, BitVec.zero_xor]

@[simp] theorem xorAll_append (l m : List Byte) : Spec.xorAll (l ++ m) = Spec.xorAll l ^^^ Spec.xorAll m := by
  rw [← foldl_xor_eq, Spec.xorAll, List.foldl_append]
  rfl

/-! ### The escape rule -/

@[simp] theorem escaped_nil : Spec.escaped [] = [] := rfl

theorem escaped_cons (b : Byte) (p : List Byte) :
    Spec.escaped (b :: p) = (if b = sync0 then [escByte, b] else [b]) ++ Spec.escaped p := by
  rw [Spec.escaped, List.flatMap_cons]
  split
  case isTrue h => subst h; rfl
  case isFalse => rfl

/-- R78: the inserted zeros change nothing in an exclusive or. -/
@[simp] theorem xorAll_escaped (p : List Byte) : Spec.xorAll (Spec.escaped p) = Spec.xorAll p := by
  induction p with
  | nil => rfl
  | cons b p ih =>
    rw [escaped_cons, xorAll_append, xorAll_cons, ih]
    split
    · simp [escByte]
    · simp

/-! ### The loop -/

theorem buildByte_eq (out : List Byte) (x b : Byte) :
    buildByte (out, x) b = (out ++ (if b = sync0 then [escByte, b] else [b]), x ^^^ b) := by
  rw [buildByte]
  split <;> simp

/-- R192: the loop appends the escaped payload and folds the unescaped one into the running checksum. -/
theorem foldl_buildByte (p : List Byte) (out : List Byte) (x : Byte) :
    p.foldl buildByte (out, x) = (out ++ Spec.escaped p, x ^^^ Spec.xorAll p) := by
  induction p generalizing out x with
  | nil => simp
  | cons b p ih => rw [List.foldl_cons, buildByte_eq, ih, escaped_cons, xorAll_cons, List.append_assoc, BitVec.xor_assoc]

/-- R186 to R191: the builder's loop gives the response frame. -/
theorem build_eq_responseFrame (a fc : Half) (p : List Byte) : build a fc p = Spec.responseFrame a fc p := by
  simp [build, Spec.responseFrame, foldl_buildByte, sync0, sync1, statusOk, txOverhead, BitVec.xor_assoc]

/-! ### The checksum -/

theorem responseFrame_getLast? (a fc : Half) (p : List Byte) :
    (Spec.responseFrame a fc p).getLast? =
      some (Spec.xorAll ([Spec.lo a, Spec.hi a, Spec.lo fc, Spec.hi fc, 0x00#8] ++ p)) :=
  List.getLast?_concat

/-- The positions R78 sums over: from the address to the last byte before the checksum. -/
theorem responseFrame_body (a fc : Half) (p : List Byte) :
    ((Spec.responseFrame a fc p).drop 4).dropLast =
      [Spec.lo a, Spec.hi a, Spec.lo fc, Spec.hi fc, 0x00#8] ++ Spec.escaped p :=
  List.dropLast_concat

/-- Settles O42, on the closed form: the body is the escaped payload behind the fixed bytes, and escaping keeps the
exclusive or. -/
theorem responseChecksumFoldsPositionsFiveOn : Obligations.ResponseChecksumFoldsPositionsFiveOn := by
  intro a fc p
  have last := responseFrame_getLast? a fc p
  rw [build_eq_responseFrame]
  refine ⟨?_, last⟩
  rw [last, responseFrame_body, xorAll_append, xorAll_append, xorAll_escaped]

end Sys2Proof.Machine
end

section
/-! The two-byte fields behind the length and the checksum byte, each as an exact next state of the step
(spec/40_frame_receiver.md R104, R107, R108, R111, R112). -/

namespace Sys2Proof.Machine

/-! ### The state actions, one equation per branch -/

section Actions

variable {s : State}

theorem rxAction_address (hs : s.rxState = .address) (b : Byte) (now : Time) :
    rxAction b now s = .next (rxAddress b s) := by
  simp only [rxAction, hs]

theorem rxAction_functionCode (hs : s.rxState = .functionCode) (b : Byte) (now : Time) :
    rxAction b now s = .next (rxFunctionCode b s) := by
  simp only [rxAction, hs]

/-- R111: the checksum byte is in no result. -/
theorem rxAction_checksumSkip (hs : s.rxState = .checksumSkip) (b : Byte) (now : Time) :
    rxAction b now s = .next (s.setRxState .complete) := by
  simp only [rxAction, hs]

theorem rxAddress_low (hp : s.pairHi = false) (b : Byte) :
    rxAddress b s = { s with pairHi := true, frm := { s.frm with address := pairLow b } } := by
  rw [rxAddress, hp]
  rfl

theorem rxAddress_high (hp : s.pairHi = true) (b : Byte) :
    rxAddress b s = { s with
      pairHi := false, rxState := .functionCode, frm := { s.frm with address := pairHigh s.frm.address b } } := by
  rw [rxAddress, hp]
  rfl

theorem rxFunctionCode_low (hp : s.pairHi = false) (b : Byte) :
    rxFunctionCode b s = { s with pairHi := true, frm := { s.frm with functionCode := pairLow b } } := by
  rw [rxFunctionCode, hp]
  rfl

theorem rxFunctionCode_high (hp : s.pairHi = true) (b : Byte) :
    rxFunctionCode b s = { s with
      pairHi := false, rxIndex := 0#7, rxState := if s.frm.length = 0#16 then .checksumSkip else .data,
      frm := { s.frm with functionCode := pairHigh s.frm.functionCode b } } := by
  rw [rxFunctionCode, hp]
  rfl

end Actions

/-! ### The step on a byte in time -/

section Step

variable {s u : State} {b : Byte} {now : Time} {rest : List Event}

/-- On a byte in time the step is the action of the state, then dispatch. -/
theorem step_of_rxAction (hin : s.inputs = .rxByte b now :: rest) (ht : (now - s.tStart).toNat ≤ rxTimeout)
    (action : rxAction b now (s.setInputs rest) = .next u) : step s = dispatchTap u :=
  (step_of_cons hin).trans
    (byteEvent_of_next ((consumeByte_inTime (s := s.setInputs rest) ht b).trans action))

/-- An action that completes no frame is the whole step. -/
theorem step_of_resting_rxAction (hin : s.inputs = .rxByte b now :: rest) (ht : (now - s.tStart).toNat ≤ rxTimeout)
    (action : rxAction b now (s.setInputs rest) = .next u) (resting : u.rxState ≠ .complete) : step s = .next u :=
  (step_of_rxAction hin ht action).trans (dispatchTap_of_not_complete resting)

end Step

/-- Settles O12: neither half of the pair completes a frame, so the step is the Address action. -/
theorem addressAssemblesLowByteFirst : Obligations.AddressAssemblesLowByteFirst := by
  intro s b now rest hin hs ht
  have action := rxAction_address (s := s.setInputs rest) hs b now
  constructor
  · intro low
    rw [rxAddress_low (s := s.setInputs rest) low] at action
    exact step_of_resting_rxAction hin ht action (by simp [hs])
  · intro high
    rw [rxAddress_high (s := s.setInputs rest) high] at action
    exact step_of_resting_rxAction hin ht action (by simp)

/-- Settles O13: as O12, with the branch on the payload length, neither side of which is Complete. -/
theorem functionCodeAssemblesAndBranchesOnLength : Obligations.FunctionCodeAssemblesAndBranchesOnLength := by
  intro s b now rest hin hs ht
  have action := rxAction_functionCode (s := s.setInputs rest) hs b now
  constructor
  · intro low
    rw [rxFunctionCode_low (s := s.setInputs rest) low] at action
    exact step_of_resting_rxAction hin ht action (by simp [hs])
  · intro high
    rw [rxFunctionCode_high (s := s.setInputs rest) high] at action
    refine step_of_resting_rxAction hin ht action ?_
    dsimp only
    split <;> decide

/-- Settles O20: the checksum byte completes the frame, and dispatch runs what the frame registers decode to. -/
theorem aStepRunsTheDecodedInstruction : Obligations.AStepRunsTheDecodedInstruction := by
  rintro s b now rest _ hin hs ht rfl
  have completed := step_of_rxAction hin ht (rxAction_checksumSkip (s := s.setInputs rest) hs b now)
  obtain ⟨t, executed, dispatched, -⟩ := dispatchTap_of_complete (s := (s.setInputs rest).setRxState .complete) rfl
  exact ⟨t, executed, completed.trans dispatched⟩

end Sys2Proof.Machine
end

section
/-! The responses in the spec's closed form (spec/30_encoding.md R75, spec/41_command_dispatch.md R144), and the commands
that do nothing but answer (spec/41_command_dispatch.md R133 to R138, spec/43_page_write.md R177). -/

namespace Sys2Proof.Machine

/-! ### One more response -/

/-- R144: the response frame of an empty payload is the ten bytes of empty success. -/
theorem responseFrame_nil (a fc : Half) : Spec.responseFrame a fc [] = Spec.emptySuccess a fc := by
  have checksum : Spec.xorAll ([Spec.lo a, Spec.hi a, Spec.lo fc, Spec.hi fc, 0x00#8] ++ []) =
      Spec.lo a ^^^ Spec.hi a ^^^ Spec.lo fc ^^^ Spec.hi fc := by
    simp [BitVec.xor_assoc]
  rw [Spec.responseFrame, checksum]
  rfl

theorem State.respond_eq (s : State) (a fc : Half) (p : List Byte) :
    s.respond a fc p = { s with outputs := s.outputs ++ [.response (Spec.responseFrame a fc p)] } :=
  build_eq_responseFrame a fc p ▸ rfl

theorem State.respond_nil (s : State) (a fc : Half) :
    s.respond a fc [] = { s with outputs := s.outputs ++ [.response (Spec.emptySuccess a fc)] } :=
  responseFrame_nil a fc ▸ s.respond_eq a fc []

/-! ### The commands that only answer -/

/-- Settles O23: both commands respond with an empty payload. -/
theorem initPortAndHaltAnswerEmptySuccess : Obligations.InitPortAndHaltAnswerEmptySuccess := by
  intro a s
  exact ⟨congrArg Host.Outcome.next (s.respond_nil a s.cfg.fcInitPort),
    congrArg Host.Outcome.next (s.respond_nil a s.cfg.fcHalt)⟩

/-- Settles O24: the meaning of SETANTENNA is the state itself. -/
theorem setAntennaDoesNothing : Obligations.SetAntennaDoesNothing := by
  intro a s
  rfl

/-- Settles O25, by the closed form of a response. -/
theorem requestAndSelectAnswerFixedPayloads : Obligations.RequestAndSelectAnswerFixedPayloads := by
  intro a s
  exact ⟨congrArg Host.Outcome.next (s.respond_eq a s.cfg.fcRequest [0x44#8, 0x00#8]),
    congrArg Host.Outcome.next (s.respond_eq a s.cfg.fcSelect [0x04#8])⟩

/-- Settles O26: the model's byte slices of the id are the spec's, and the response has its closed form. -/
theorem antiCollisionAnswersTheIdBigEndian : Obligations.AntiCollisionAnswersTheIdBigEndian := by
  intro a s
  rw [hi_eq_highByte, lo_eq_lowByte]
  exact congrArg Host.Outcome.next
    (s.respond_eq a s.cfg.fcAntiColl [0x88#8, 0x04#8, highByte s.record.id, lowByte s.record.id])

/-- Settles O33: such a page is answered and nothing else. -/
theorem otherPagesChangeNothingAndAreAnswered : Obligations.OtherPagesChangeNothingAndAreAnswered := by
  intro a page s
  exact congrArg Host.Outcome.next (s.respond_nil a s.cfg.fcWrite)

end Sys2Proof.Machine
end

section
/-! The pages as exact next states (spec/43_page_write.md R172 to R175): the model's concatenations are the spec's shifts and
masks, and the write is one record update with its outputs. -/

namespace Sys2Proof.Machine

/-! ### Concatenation as shifts and masks -/

theorem append_eq_shiftLeft_or {m n : Nat} (x : BitVec m) (y : BitVec n) :
    x ++ y = x.setWidth (m + n) <<< n ||| y.setWidth (m + n) :=
  (BitVec.setWidth_eq _).symm.trans BitVec.setWidth_append_eq_shiftLeft_setWidth_or

theorem append_append_eq_shiftLeft_or {l m n : Nat} (x : BitVec l) (y : BitVec m) (z : BitVec n) :
    x ++ y ++ z =
      x.setWidth (l + m + n) <<< (m + n) ||| y.setWidth (l + m + n) <<< n ||| z.setWidth (l + m + n) :=
  (BitVec.setWidth_eq _).symm.trans BitVec.setWidth_append_append_eq_shiftLeft_setWidth_or

theorem pair_eq_pairBE (d1 d2 : Byte) : Spec.pair d1 d2 = pairBE d1 d2 := (append_eq_shiftLeft_or d1 d2).symm

theorem byte_lowNibble (d : Byte) : (d &&& 0xF#8).setWidth 20 = (d.extractLsb' 0 4).setWidth 20 := by
  ext i hi
  interval_cases i <;> simp

theorem byte_highNibble (d : Byte) : (d >>> 4).setWidth 20 = (d.extractLsb' 4 4).setWidth 20 := by
  ext i hi
  interval_cases i <;> simp

/-- The bits of a length that page 7 keeps. -/
theorem len_lowNibble (l : Len20) : l &&& 0xF#20 = (l.extractLsb' 0 4).setWidth 20 := by
  ext i hi
  interval_cases i <;> simp

/-- The bits of a length that page 8 keeps. -/
theorem len_upper (l : Len20) : l &&& 0xFFFF0#20 = (l.extractLsb' 4 16).setWidth 20 <<< 4 := by
  ext i hi
  interval_cases i <;> simp

/-! ### The records -/

section Records

variable (d1 d2 d3 d4 : Byte) (r : Record)

theorem page7_eq : Spec.page7 d1 d2 d3 d4 r = r.page7 d1 d2 d3 d4 := by
  rw [Spec.page7, Record.page7, len_lowNibble, append_append_eq_shiftLeft_or]

theorem page8_eq : Spec.page8 d1 d2 d3 d4 r = r.page8 d1 d2 d3 d4 := by
  rw [Spec.page8, Record.page8, len_upper, byte_highNibble, byte_lowNibble, append_append_eq_shiftLeft_or,
    append_eq_shiftLeft_or]

theorem page9_eq : Spec.page9 d1 d2 d3 d4 r = r.page9 d1 d2 d3 d4 := by
  rw [Spec.page9, Record.page9, pair_eq_pairBE]

theorem afterPage9_eq (unlimited : Bool) :
    Spec.afterPage9 unlimited d1 d2 d3 d4 r = (r.page9 d1 d2 d3 d4).unlimitedReset unlimited := by
  rw [Spec.afterPage9, Record.unlimitedReset, page9_eq]

end Records

/-! ### The writes -/

/-- R140 on a page without a Save: the record is replaced, then empty success is answered. -/
theorem State.setRecord_respond_nil (s : State) (r : Record) (a fc : Half) :
    (s.setRecord r).respond a fc [] =
      { s with record := r, outputs := s.outputs ++ [.response (Spec.emptySuccess a fc)] } :=
  (s.setRecord r).respond_nil a fc

/-- R145: the Save carries the record just written and stands before the response. -/
theorem State.setRecord_save_respond_nil (s : State) (r : Record) (a fc : Half) :
    (s.setRecord r).save.respond a fc [] =
      { s with
        record := r,
        outputs := s.outputs ++ [.save s.cfg.storeOffset r, .response (Spec.emptySuccess a fc)] } := by
  rw [State.respond_nil, State.save, State.emit_outputs, List.append_assoc]
  rfl

/-- Settles O30: page 7 replaces the record by the spec's, and answers. -/
theorem page7SetsGreenBlueAndHighLength : Obligations.Page7SetsGreenBlueAndHighLength := by
  intro a d1 d2 d3 d4 s
  rw [page7_eq]
  exact congrArg Host.Outcome.next (s.setRecord_respond_nil (s.record.page7 d1 d2 d3 d4) a s.cfg.fcWrite)

/-- Settles O31: page 8 replaces the record by the spec's, and answers. -/
theorem page8CompletesLengthsAndTemperature : Obligations.Page8CompletesLengthsAndTemperature := by
  intro a d1 d2 d3 d4 s
  rw [page8_eq]
  exact congrArg Host.Outcome.next (s.setRecord_respond_nil (s.record.page8 d1 d2 d3 d4) a s.cfg.fcWrite)

/-- Settles O32: page 9 replaces the record by the spec's, saves that record, and answers. -/
theorem page9SetsFieldsThenSavesThenAnswers : Obligations.Page9SetsFieldsThenSavesThenAnswers := by
  intro a d1 d2 d3 d4 s
  rw [afterPage9_eq]
  exact congrArg Host.Outcome.next (s.setRecord_save_respond_nil
    ((s.record.page9 d1 d2 d3 d4).unlimitedReset s.cfg.unlimitedFilament) a s.cfg.fcWrite)

end Sys2Proof.Machine
end

section
/-! The declared length in dispatch (spec/41_command_dispatch.md R142, decisions D12 and D16). -/

namespace Sys2Proof.Machine

/-- Settles O35: with the execution taken under the tests of the command map, the one test on the length has two equal
sides, the umbrella command and the page its number selects. -/
theorem payloadLengthIsReadByNoCommand : Obligations.PayloadLengthIsReadByNoCommand := by
  intro s a fc n m pl
  simp only [decodeCommand, apply_ite (exec · s), execWriteData_selects, ite_self]

end Sys2Proof.Machine
end

section
/-! The decoder on the bytes of a whole frame, one lemma per stage, from the body out to the first byte
(spec/30_encoding.md R70, R71, R72, R83). -/

namespace Sys2Proof

/-- The bytes of a pair are those the encoder took it apart into. -/
theorem pairLE_lowByte_highByte (v : Half) : pairLE (lowByte v) (highByte v) = v := by
  apply BitVec.eq_of_toNat_eq
  rw [Machine.toNat_pairLE, lowByte, highByte, BitVec.extractLsb'_toNat, BitVec.extractLsb'_toNat,
    Nat.shiftRight_eq_div_pow, Nat.shiftRight_eq_div_pow]
  omega

/-- R72, R176: the body takes the payload and one checksum byte, whatever it is, and payload positions past the end read
0. -/
theorem decodeBody_frame (cfg : Config) (a fc : Half) (p rest : List Byte) (checksum : Byte) :
    decodeBody cfg p.length (lowByte a :: highByte a :: lowByte fc :: highByte fc :: (p ++ checksum :: rest)) =
      .ok (decodeCommand cfg a fc p.length (fun i => p.getD i 0#8), rest) := by
  have long : ¬ (p ++ checksum :: rest).length < p.length + 1 := by
    rw [List.length_append, List.length_cons]
    omega
  have behind : (p ++ checksum :: rest).drop (p.length + 1) = rest := List.drop_length_add_append 1
  rw [decodeBody, if_neg long, pairLE_lowByte_highByte, pairLE_lowByte_highByte, List.take_left, behind]

/-- R71, R83: a length field of 5 to 69 is accepted. -/
theorem decodeLength_accepted {raw : Half} (low : 5 ≤ raw.toNat) (high : raw.toNat ≤ 69) (cfg : Config) (t : List Byte) :
    decodeLength cfg (lowByte raw :: highByte raw :: t) = decodeBody cfg (raw.toNat - 5) t := by
  rw [decodeLength, pairLE_lowByte_highByte]
  exact (if_neg (Nat.not_lt.2 low)).trans (if_neg (Nat.not_lt.2 (Nat.sub_le_sub_right high 5)))

/-- R70: behind the two sync bytes the decoder reads the length. -/
theorem decode_sync (cfg : Config) (t : List Byte) : decode cfg (sync0 :: sync1 :: t) = decodeLength cfg t := rfl

/-- Settles O51: the length field of such a frame is accepted and gives the payload's length back. -/
theorem everyLegalFrameDecodesWhateverItsChecksum : Obligations.EveryLegalFrameDecodesWhateverItsChecksum := by
  intro cfg a fc p rest checksum fits
  have raw : (BitVec.ofNat 16 (p.length + 5)).toNat = p.length + 5 := Nat.mod_eq_of_lt (by omega)
  simp only [frameBytes, rxOverhead, List.append_assoc, List.cons_append, List.nil_append]
  rw [decode_sync, decodeLength_accepted (by omega) (by omega), raw, Nat.add_sub_cancel, decodeBody_frame]

end Sys2Proof
end

section
/-! The record image in the spec's shifts and masks (spec/42_record_codec.md R150, R152). -/

namespace Sys2Proof.Machine

/-- A byte of a length: the mask is the truncation to eight bits, the shift the start of the slice. -/
theorem len_byte (l : Len20) (start : Nat) :
    ((l >>> start) &&& 0xFF#20).setWidth 8 = l.extractLsb' start 8 :=
  calc ((l >>> start) &&& 0xFF#20).setWidth 8
      = (l >>> start).setWidth 8 &&& BitVec.allOnes 8 := BitVec.setWidth_and
    _ = l.extractLsb' start 8 := BitVec.and_allOnes

/-- The byte the two lengths share (byte 9): the lowest nibble of the one above the top nibble of the other. -/
theorem len_sharedByte (initial used : Len20) :
    (((initial &&& 0xF#20) <<< 4) ||| ((used >>> 16) &&& 0xF#20)).setWidth 8 =
      initial.extractLsb' 0 4 ++ used.extractLsb' 16 4 := by
  have topNibble : (used >>> 16) &&& 0xF#20 = (used.extractLsb' 16 4).setWidth 20 := len_lowNibble (used >>> 16)
  rw [len_lowNibble, topNibble, ← BitVec.setWidth_append_eq_shiftLeft_setWidth_or,
    BitVec.setWidth_setWidth_of_le _ (by decide)]
  exact BitVec.setWidth_eq _

theorem imageBody_eq_body (r : Record) : Spec.imageBody r = r.body.toList := by
  have kind : r.cartridgeType.setWidth 8 <<< 4 ||| r.material.setWidth 8 = r.cartridgeType ++ r.material :=
    (append_eq_shiftLeft_or r.cartridgeType r.material).symm
  have lowestByte : (r.usedLength &&& 0xFF#20).setWidth 8 = r.usedLength.extractLsb' 0 8 := len_byte r.usedLength 0
  simp only [Spec.imageBody, hi_eq_highByte, lo_eq_lowByte, kind, len_byte, len_sharedByte, lowestByte]
  rfl

/-- The exclusive or of R11 is one value folded from either end. -/
theorem xorFold_eq_xorAll (l : List Byte) : xorFold l = Spec.xorAll l := List.foldl_eq_foldr.symm

/-- Settles O44: the model's slices are the spec's shifts and masks, and byte 16 is the exclusive or of them. -/
theorem encodeGivesTheImageLayout : Obligations.EncodeGivesTheImageLayout := by
  intro r
  rw [Record.encode_toList, Spec.image, imageBody_eq_body, xorFold_eq_xorAll]

end Sys2Proof.Machine
end

section
/-! The record write idiom (spec/43_page_write.md R171, R179): pages 6, 7, 8, 9 with the bytes of an image leave the decoded
image in the record, and READDATA answers that image again. -/

namespace Sys2Proof.Machine

/-! ### Page 6 -/

theorem page6_eq (d1 d2 d3 d4 : Byte) (r : Record) : Spec.page6 d1 d2 d3 d4 r = r.page6 d1 d2 d3 d4 := by
  have low : d3.setWidth 4 = d3.extractLsb' 0 4 := BitVec.setWidth_eq_extractLsb' (by decide)
  rw [Spec.page6, Record.page6, pair_eq_pairBE, low]
  rfl

/-- Settles O29: page 6 replaces the record by the spec's, and answers. -/
theorem page6SetsMagicTypeMaterialRed : Obligations.Page6SetsMagicTypeMaterialRed := by
  intro a d1 d2 d3 d4 s
  rw [page6_eq]
  exact congrArg Host.Outcome.next (s.setRecord_respond_nil (s.record.page6 d1 d2 d3 d4) a s.cfg.fcWrite)

/-! ### The record after the four pages -/

@[simp] theorem append_nibble_upper (a : BitVec 16) (b : Nibble) : (a ++ b : Len20).extractLsb' 4 16 = a :=
  BitVec.extractLsb'_append_eq_left

/-- R180 in the order of R179: page 8 completes the length that page 7 began, and no page touches what another wrote. -/
theorem pages_eq_decode (m : Image) (r : Record) :
    (((r.page6 m[0] m[1] m[2] m[3]).page7 m[4] m[5] m[6] m[7]).page8 m[8] m[9] m[10] m[11]).page9
      m[12] m[13] m[14] m[15] = Record.decode r m := by
  simp [Record.page6, Record.page7, Record.page8, Record.page9, Record.decode]

@[simp] theorem unlimitedReset_xorTrailer (u : Bool) (r : Record) : (r.unlimitedReset u).xorTrailer = r.xorTrailer := by
  cases u <;> rfl

/-! ### The image of a decoded image -/

theorem decode_body_get (r : Record) (m : Image) (k : Nat) (hk : k < 15) :
    (Record.decode r m).body[k] = m[k]'(Nat.lt_succ_of_lt hk) := by
  interval_cases k <;> simp [Record.body, Record.decode]

/-- R158: bytes 1 to 15 of an image come back from the record it was decoded to. -/
theorem imageBody_decode (r : Record) (m : Image) : Spec.imageBody (Record.decode r m) = m.toList.take 15 := by
  rw [imageBody_eq_body]
  apply List.ext_getElem (by simp [imageLen])
  intro k hk _
  simpa using decode_body_get r m k (by simpa using hk)

/-! ### The states of the sequence -/

theorem exec_readData_eq (a : Half) (s : State) :
    exec (.readData a) s =
      .next { s with outputs := s.outputs ++ [.response (Spec.responseFrame a s.cfg.fcRead (Spec.image s.record))] } := by
  rw [← encodeGivesTheImageLayout s.record]
  exact congrArg Host.Outcome.next (s.respond_eq a s.cfg.fcRead s.record.encode.toList)

section Sequence

variable {a : Half} {m : Image} {s s6 s7 s8 s9 : State}

/-- Pages 6, 7 and 8 write their fields and answer; none saves. -/
theorem state_after_page8 (h6 : exec (.writeP6 a m[0] m[1] m[2] m[3]) s = .next s6)
    (h7 : exec (.writeP7 a m[4] m[5] m[6] m[7]) s6 = .next s7)
    (h8 : exec (.writeP8 a m[8] m[9] m[10] m[11]) s7 = .next s8) :
    s8 = { s with
      record := ((s.record.page6 m[0] m[1] m[2] m[3]).page7 m[4] m[5] m[6] m[7]).page8 m[8] m[9] m[10] m[11],
      outputs := s.outputs ++ List.replicate 3 (.response (Spec.emptySuccess a s.cfg.fcWrite)) } := by
  cases h6
  cases h7
  cases h8
  simp [State.setRecord_respond_nil, List.replicate]

/-- Page 9 completes the decoded image, clears `usedLength` in unlimited-filament mode, saves the record and answers. -/
theorem state_after_page9 (h6 : exec (.writeP6 a m[0] m[1] m[2] m[3]) s = .next s6)
    (h7 : exec (.writeP7 a m[4] m[5] m[6] m[7]) s6 = .next s7)
    (h8 : exec (.writeP8 a m[8] m[9] m[10] m[11]) s7 = .next s8)
    (h9 : exec (.writeP9 a m[12] m[13] m[14] m[15]) s8 = .next s9) :
    s9 = { s with
      record := (Record.decode s.record m).unlimitedReset s.cfg.unlimitedFilament,
      outputs := s8.outputs ++
        [.save s.cfg.storeOffset ((Record.decode s.record m).unlimitedReset s.cfg.unlimitedFilament),
          .response (Spec.emptySuccess a s.cfg.fcWrite)] } := by
  obtain rfl := state_after_page8 h6 h7 h8
  rw [page9SetsFieldsThenSavesThenAnswers, afterPage9_eq, pages_eq_decode] at h9
  exact (Host.Outcome.next.inj h9).symm

end Sequence

/-- Settles O49: the record after page 9 is the decoded image, page 9's outputs hold the one save, and the image of the
decoded image is the image sent. -/
theorem fullWriteThenReadReturnsTheImage : Obligations.FullWriteThenReadReturnsTheImage := by
  intro a m s s6 s7 s8 s9 h6 h7 h8 h9
  have noSave : s8.outputs.filter Spec.isSave = s.outputs.filter Spec.isSave := by
    rw [state_after_page8 h6 h7 h8]
    simp [Spec.isSave]
  obtain rfl := state_after_page9 h6 h7 h8 h9
  refine ⟨rfl, unlimitedReset_xorTrailer _ _, unlimitedReset_id _ _, noSave, ?_, _, exec_readData_eq a _, ?_, ?_⟩
  · rw [List.filter_append, List.length_append]
    rfl
  · intro limited
    rw [← imageBody_decode s.record m, limited]
    rfl
  · intro unlimited
    rw [unlimited]
    rfl

end Sys2Proof.Machine
end

section
/-! The response builder in the spec's closed form (spec/44_response_builder.md R186 to R191). -/

namespace Sys2Proof.Machine

/-- Settles O40, by the induction on the payload of `foldl_buildByte`: from any start, the loop appends the escaped payload
and folds the unescaped one into the running checksum. From the header and the four address and code bytes that is the
closed form. -/
theorem builderGivesTheResponseFrame : Obligations.BuilderGivesTheResponseFrame := build_eq_responseFrame

end Sys2Proof.Machine
end

section
/-! The command map under pairwise distinct codes (spec/30_encoding.md R82, decision D9), and the encoder taken back by the
decoder (R70, R72). -/

namespace Sys2Proof

/-! ### Each code and its command -/

section Codes

variable {cfg : Config} {a : Half} {n : Nat} {pl : Nat → Byte}

/-- A code that is none of the eight passes every test of the map. -/
theorem decodeCommand_of_not_mem {fc : Half} (none : fc ∉ cfg.codes) : decodeCommand cfg a fc n pl = .unknown a fc := by
  simp only [Config.codes, List.mem_cons, List.not_mem_nil, or_false, not_or] at none
  simp only [decodeCommand, none, if_false]

/-- Under distinct codes the tests before a code's own fail on it: the map is a table from the seven codes without a page
to their commands. -/
theorem decodeCommand_table (distinct : cfg.Distinct) :
    decodeCommand cfg a cfg.fcInitPort n pl = .initPort a ∧ decodeCommand cfg a cfg.fcSetAntenna n pl = .setAntenna a ∧
    decodeCommand cfg a cfg.fcRequest n pl = .request a ∧ decodeCommand cfg a cfg.fcAntiColl n pl = .antiColl a ∧
    decodeCommand cfg a cfg.fcSelect n pl = .select a ∧ decodeCommand cfg a cfg.fcHalt n pl = .halt a ∧
    decodeCommand cfg a cfg.fcRead n pl = .readData a ∧
    decodeCommand cfg a cfg.fcWrite n pl =
      if n = 0 then .writeData a (pl 0) (pl 1) (pl 2) (pl 3) (pl 4)
      else selectPage a (pl 0) (pl 1) (pl 2) (pl 3) (pl 4) := by
  have apart : cfg.codes.Pairwise (fun c d => ¬ d = c) := distinct.imp Ne.symm
  simp only [Config.codes, List.pairwise_cons, List.forall_mem_cons] at apart
  simp [decodeCommand, apart]

end Codes

/-- Settles O53: the table of the eight codes, the page selected behind the write code. -/
theorem functionCodeSelectsTheCommand : Obligations.FunctionCodeSelectsTheCommand := by
  intro cfg a n pl distinct
  obtain ⟨initPort, setAntenna, request, antiColl, select, halt, readData, -⟩ :=
    decodeCommand_table (a := a) (n := n) (pl := pl) distinct
  obtain ⟨-, -, -, -, -, -, -, write⟩ := decodeCommand_table (a := a) (n := n + 1) (pl := pl) distinct
  exact ⟨initPort, setAntenna, request, antiColl, select, halt, readData, write.trans (if_neg n.succ_ne_zero),
    fun _ => decodeCommand_of_not_mem⟩

/-! ### Decoding an encoded command -/

theorem Instr.payload_length_le (i : Instr) : i.payload.length ≤ 64 := by
  cases i <;> simp [Instr.payload, pageData]

/-- `writeData` is well formed when its page and data are 0. -/
theorem wf_writeData_iff {cfg : Config} {a : Half} {page d1 d2 d3 d4 : Byte} :
    (Instr.writeData a page d1 d2 d3 d4).wf cfg = true ↔ page = 0#8 ∧ d1 = 0#8 ∧ d2 = 0#8 ∧ d3 = 0#8 ∧ d4 = 0#8 := by
  simp [Instr.wf, and_assoc]

/-- A page number outside 6..9 selects no page. -/
theorem selectPage_of_not_page {page : Byte} (h : isPage page = false) (a : Half) (d1 d2 d3 d4 : Byte) :
    selectPage a page d1 d2 d3 d4 = .writeOther a page := by
  have none : ¬ (page = 6#8 ∨ page = 7#8 ∨ page = 8#8 ∨ page = 9#8) := by rw [← isPage_iff, h]; decide
  simp only [not_or] at none
  simp [selectPage, none]

/-- The fields of a well-formed command's frame select that command. -/
theorem decodeCommand_of_wf {cfg : Config} {i : Instr} (distinct : cfg.Distinct) (wf : i.wf cfg = true) :
    decodeCommand cfg i.address (i.functionCode cfg) i.payload.length (fun k => i.payload.getD k 0#8) = i := by
  obtain ⟨initPort, setAntenna, request, antiColl, select, halt, readData, write⟩ :=
    decodeCommand_table (a := i.address) (n := i.payload.length) (pl := fun k => i.payload.getD k 0#8) distinct
  cases i with
  | initPort a => exact initPort
  | setAntenna a => exact setAntenna
  | request a => exact request
  | antiColl a => exact antiColl
  | select a => exact select
  | halt a => exact halt
  | readData a => exact readData
  | writeData a page d1 d2 d3 d4 =>
    obtain ⟨rfl, rfl, rfl, rfl, rfl⟩ := wf_writeData_iff.1 wf
    exact write
  | writeP6 a d1 d2 d3 d4 => exact write
  | writeP7 a d1 d2 d3 d4 => exact write
  | writeP8 a d1 d2 d3 d4 => exact write
  | writeP9 a d1 d2 d3 d4 => exact write
  | writeOther a page =>
    have outside : isPage page = false := Bool.not_eq_eq_eq_not.1 wf
    exact write.trans (selectPage_of_not_page outside a _ _ _ _)
  | unknown a fc =>
    have none : fc ∉ cfg.codes := by simpa [Instr.wf] using wf
    exact decodeCommand_of_not_mem none

/-- Settles O50: the encoder's frame is a legal frame, and its fields select the command. -/
theorem decodeOfEncodeGivesTheInstructionBack : Obligations.DecodeOfEncodeGivesTheInstructionBack := by
  intro cfg i rest distinct wf
  rw [encode, everyLegalFrameDecodesWhateverItsChecksum _ _ _ _ _ _ i.payload_length_le, decodeCommand_of_wf distinct wf]

end Sys2Proof
end

section
/-! The record codec both ways, and the pages as parts of it (spec/42_record_codec.md R153, R157, R158,
spec/43_page_write.md R180). -/

namespace Sys2Proof.Machine

/-! ### A value put together from its slices -/

@[simp] theorem pairBE_highByte_lowByte (v : Half) : pairBE (highByte v) (lowByte v) = v :=
  BitVec.extractLsb'_append_extractLsb'

@[simp] theorem byte_of_nibbles_high (x y : Nibble) : (x ++ y : Byte).extractLsb' 4 4 = x :=
  BitVec.extractLsb'_append_eq_left

@[simp] theorem byte_of_nibbles_low (x y : Nibble) : (x ++ y : Byte).extractLsb' 0 4 = y :=
  BitVec.extractLsb'_append_eq_right

@[simp] theorem byteByteNibble_append (l : Len20) :
    (l.extractLsb' 12 8 ++ l.extractLsb' 4 8 ++ l.extractLsb' 0 4 : Len20) = l := by
  have upper : l.extractLsb' 12 8 ++ l.extractLsb' 4 8 = l.extractLsb' 4 16 :=
    BitVec.extractLsb'_append_extractLsb'_eq_extractLsb' rfl
  rw [upper]
  exact BitVec.extractLsb'_append_extractLsb'

@[simp] theorem nibbleByteByte_append (l : Len20) :
    (l.extractLsb' 16 4 ++ l.extractLsb' 8 8 ++ l.extractLsb' 0 8 : Len20) = l := by
  have upper : l.extractLsb' 16 4 ++ l.extractLsb' 8 8 = l.extractLsb' 8 12 :=
    BitVec.extractLsb'_append_extractLsb'_eq_extractLsb' rfl
  rw [upper]
  exact BitVec.extractLsb'_append_extractLsb'

/-! ### Decoding an image, encoding a record -/

/-- Settles O45: every field is put together from the slices its bytes were cut out as. -/
theorem decodeOfEncodeGivesTheRecordBack : Obligations.DecodeOfEncodeGivesTheRecordBack := by
  intro r q
  simp [Record.decode, Record.encode, Record.body]

/-- Settles O46: the body of a decoded image is the image's, and byte 16 folds the body. -/
theorem encodeOfDecodeGivesTheImageBack : Obligations.EncodeOfDecodeGivesTheImageBack := by
  intro q m
  constructor
  · intro k hk
    rw [Record.encode_get _ k hk, decode_body_get q m k hk]
  · rw [Record.encode_last, xorFold_eq_xorAll, ← imageBody_eq_body, imageBody_decode]

/-- R153 (a): byte 16 cancels the fold of the bytes before it. -/
theorem xorAll_encode (r : Record) : Spec.xorAll r.encode.toList = 0#8 := by
  rw [Record.encode_toList, xorAll_append, xorFold_eq_xorAll, xorAll_cons, xorAll_nil, BitVec.xor_zero, BitVec.xor_self]

/-- R153 (b), (c): the image is that of the eleven fields, and decoding it gives them back. -/
theorem encode_eq_iff (r q : Record) :
    r.encode = q.encode ↔ { r with id := 0#16, xorTrailer := 0#8 } = { q with id := 0#16, xorTrailer := 0#8 } := by
  constructor
  · intro same
    have fields : { r with id := r.id, xorTrailer := r.encode[15] } = { q with id := r.id, xorTrailer := q.encode[15] } :=
      calc _ = Record.decode r r.encode := (decodeOfEncodeGivesTheRecordBack r r).symm
        _ = Record.decode r q.encode := by rw [same]
        _ = _ := decodeOfEncodeGivesTheRecordBack q r
    exact congrArg (fun p : Record => { p with id := 0#16, xorTrailer := 0#8 }) fields
  · intro same
    calc r.encode = Record.encode { r with id := 0#16, xorTrailer := 0#8 } := (r.encode_ignores 0#16 0#8).symm
      _ = Record.encode { q with id := 0#16, xorTrailer := 0#8 } := by rw [same]
      _ = q.encode := q.encode_ignores 0#16 0#8

/-- Settles O47: the fold cancels, and decoding tells the eleven fields. -/
theorem imageFoldsToZeroAndFixesItsFields : Obligations.ImageFoldsToZeroAndFixesItsFields := by
  intro r q
  exact ⟨xorAll_encode r, encode_eq_iff r q⟩

/-! ### The order of the pages -/

/-- The one pair of pages that share a field: page 7 writes bits 19..4 of `initialLength`, page 8 bits 3..0. -/
theorem page7_commute_page8 {a1 a2 a3 a4 b1 b2 b3 b4 : Byte} :
    Function.Commute (Record.page7 a1 a2 a3 a4) (Record.page8 b1 b2 b3 b4) := by
  intro r
  simp [Record.page7, Record.page8]

/-- Every other pair writes different fields, so both orders are the same record update. -/
theorem pages_commute (m : Image) :
    [Record.page6 m[0] m[1] m[2] m[3], Record.page7 m[4] m[5] m[6] m[7], Record.page8 m[8] m[9] m[10] m[11],
      Record.page9 m[12] m[13] m[14] m[15]].Pairwise Function.Commute := by
  simp only [List.pairwise_cons, List.forall_mem_cons]
  exact ⟨⟨fun _ => rfl, fun _ => rfl, fun _ => rfl, by simp⟩, ⟨page7_commute_page8, fun _ => rfl, by simp⟩,
    ⟨fun _ => rfl, by simp⟩, by simp, .nil⟩

/-- The order of a list of functions that commute pairwise does not matter. -/
theorem foldl_apply_eq_of_perm {fs gs : List (Record → Record)} (perm : fs.Perm gs)
    (commute : gs.Pairwise Function.Commute) (r : Record) : fs.foldl (fun q f => f q) r = gs.foldl (fun q f => f q) r := by
  have symm : Std.Symm (Function.Commute : (Record → Record) → (Record → Record) → Prop) := ⟨fun _ _ h => h.symm⟩
  have all := commute.forall_of_forall fun f _ => Function.Commute.refl f
  exact (perm.symm.foldl_eq' (fun f hf g hg q => all hg hf q) r).symm

/-- Settles O48: the pages commute, and in the order of R179 they are the decoder. -/
theorem fourPagesInAnyOrderAreTheDecoder : Obligations.FourPagesInAnyOrderAreTheDecoder := by
  intro m r ps perm
  exact (foldl_apply_eq_of_perm perm (pages_commute m) r).trans (pages_eq_decode m r)

end Sys2Proof.Machine
end

section
/-! The response frame's length, and what it determines (spec/44_response_builder.md R190, R195, R196). -/

namespace Sys2Proof.Machine

/-! ### Lengths -/

/-- R189: one inserted byte per payload byte 0xAA. -/
theorem length_escaped (p : List Byte) : (Spec.escaped p).length = p.length + p.count 0xAA#8 := by
  induction p with
  | nil => rfl
  | cons b p ih =>
    rw [escaped_cons, List.length_append, ih, List.length_cons, List.count_cons]
    by_cases h : b = 0xAA#8
    · simp [h]; omega
    · simp [h]; omega

/-- The response frame behind its length field. -/
def responseTail (a fc : Half) (p : List Byte) : List Byte :=
  [Spec.lo a, Spec.hi a, Spec.lo fc, Spec.hi fc, 0x00#8] ++ Spec.escaped p ++
    [Spec.xorAll ([Spec.lo a, Spec.hi a, Spec.lo fc, Spec.hi fc, 0x00#8] ++ p)]

theorem length_responseTail (a fc : Half) (p : List Byte) :
    (responseTail a fc p).length = p.length + 6 + p.count 0xAA#8 := by
  simp only [responseTail, List.length_append, length_escaped, List.length_cons, List.length_nil]
  omega

/-- R187, R190: for a payload of the buffer's size the length field fits its low byte. -/
theorem build_eq_cons_responseTail {p : List Byte} (fits : p.length ≤ 64) (a fc : Half) :
    build a fc p = 0xAA#8 :: 0xBB#8 :: BitVec.ofNat 8 (p.length + 6) :: 0x00#8 :: responseTail a fc p := by
  have low : Spec.lo (BitVec.ofNat 16 (p.length + 6)) = BitVec.ofNat 8 (p.length + 6) :=
    BitVec.setWidth_ofNat_of_le (by decide) _
  have high : Spec.hi (BitVec.ofNat 16 (p.length + 6)) = 0x00#8 := by
    simp only [Spec.hi]; bv_omega
  rw [build_eq_responseFrame, Spec.responseFrame, low, high]
  rfl

/-- Settles O41: four bytes and the tail, with at most as many escapes as payload bytes. -/
theorem responseIsLongerThanItsLengthFieldByTheEscapes : Obligations.ResponseIsLongerThanItsLengthFieldByTheEscapes := by
  intro a fc p fits
  have frame := build_eq_cons_responseTail fits a fc
  have tail := length_responseTail a fc p
  have length : (build a fc p).length = p.length + p.count 0xAA#8 + 10 := by
    simp only [frame, List.length_cons, tail]
    omega
  have escapes : p.count 0xAA#8 ≤ p.length := List.count_le_length
  exact ⟨length, by omega, by omega, responseTail a fc p, frame, tail⟩

/-! ### Injectivity -/

theorem escaped_sync_cons (p : List Byte) : Spec.escaped (sync0 :: p) = escByte :: sync0 :: Spec.escaped p := rfl

theorem escaped_other_cons {b : Byte} (h : b ≠ sync0) (p : List Byte) : Spec.escaped (b :: p) = b :: Spec.escaped p := by
  rw [escaped_cons, if_neg h]
  rfl

/-- R189: no escaped payload starts with 0xAA. -/
theorem escaped_ne_sync_cons (p t : List Byte) : Spec.escaped p ≠ sync0 :: t := by
  intro h
  cases p with
  | nil => cases h
  | cons b p =>
    by_cases hb : b = sync0
    · subst hb
      exact absurd (List.cons.inj h).1 (by decide)
    · rw [escaped_other_cons hb] at h
      exact hb (List.cons.inj h).1

/-- An escaped 0xAA is told from a plain 0x00 by the byte behind it. -/
theorem escaped_sync_cons_ne {b : Byte} (h : b ≠ sync0) (p q : List Byte) :
    Spec.escaped (sync0 :: p) ≠ Spec.escaped (b :: q) := by
  rw [escaped_sync_cons, escaped_other_cons h]
  exact fun same => escaped_ne_sync_cons q (Spec.escaped p) (List.cons.inj same).2.symm

theorem escaped_cons_ne_nil (b : Byte) (p : List Byte) : Spec.escaped (b :: p) ≠ [] := by
  rw [escaped_cons]
  split <;> exact List.cons_ne_nil _ _

/-- R189: the escape rule loses nothing, whatever the payload's length. -/
theorem escaped_injective : Function.Injective Spec.escaped := by
  intro p
  induction p with
  | nil =>
    intro q same
    cases q with
    | nil => rfl
    | cons c q => exact absurd same.symm (escaped_cons_ne_nil c q)
  | cons b p ih =>
    intro q same
    cases q with
    | nil => exact absurd same (escaped_cons_ne_nil b p)
    | cons c q =>
      by_cases hb : b = sync0 <;> by_cases hc : c = sync0
      · subst hb hc
        exact congrArg (sync0 :: ·) (ih (List.cons.inj (List.cons.inj same).2).2)
      · subst hb
        exact absurd same (escaped_sync_cons_ne hc p q)
      · subst hc
        exact absurd same.symm (escaped_sync_cons_ne hb q p)
      · rw [escaped_other_cons hb, escaped_other_cons hc] at same
        obtain ⟨rfl, tails⟩ := List.cons.inj same
        exact congrArg (b :: ·) (ih tails)

theorem half_eq_of_bytes {v w : Half} (low : Spec.lo v = Spec.lo w) (high : Spec.hi v = Spec.hi w) : v = w := by
  rw [lo_eq_lowByte, lo_eq_lowByte] at low
  rw [hi_eq_highByte, hi_eq_highByte] at high
  rw [← pairLE_lowByte_highByte v, low, high, pairLE_lowByte_highByte]

/-- Settles O43: the bytes stand at fixed places, and the escaped payload between them and the checksum determines the
payload. -/
theorem builderIsInjectiveForALength : Obligations.BuilderIsInjectiveForALength := by
  intro a a' fc fc' p p' fits sameLength same
  rw [build_eq_cons_responseTail fits, build_eq_cons_responseTail (sameLength ▸ fits)] at same
  simp only [responseTail, List.cons_append, List.nil_append, List.cons.injEq, true_and] at same
  obtain ⟨-, al, ah, fl, fh, payload⟩ := same
  exact ⟨half_eq_of_bytes al ah, half_eq_of_bytes fl fh, escaped_injective (List.append_inj_left' payload rfl)⟩

end Sys2Proof.Machine
end

section
/-! The sync bytes, the length field and the timeout, each as an exact next state of the step (spec/40_frame_receiver.md R101
to R106, spec/60_exceptions.md R201 to R204). -/

namespace Sys2Proof.Machine

/-! ### The state actions before the address -/

section Actions

variable {s : State}

theorem rxAction_idle (hs : s.rxState = .idle) (b : Byte) (now : Time) : rxAction b now s = .next (rxIdle b now s) := by
  simp only [rxAction, hs]

theorem rxAction_start (hs : s.rxState = .start) (b : Byte) (now : Time) : rxAction b now s = .next (rxStart b s) := by
  simp only [rxAction, hs]

theorem rxAction_length_low (hs : s.rxState = .length) (hp : s.pairHi = false) (b : Byte) (now : Time) :
    rxAction b now s = .next (rxLengthLow b s) := by
  simp only [rxAction, hs, hp, Bool.false_eq_true, if_false]

theorem rxAction_length_high (hs : s.rxState = .length) (hp : s.pairHi = true) (b : Byte) (now : Time) :
    rxAction b now s = .next (rxLengthHigh b s) := by
  simp only [rxAction, hs, hp, if_true]

/-- R102: from Idle the byte leaves the receiver in Idle or in Start. -/
theorem rxIdle_resting (hs : s.rxState = .idle) (b : Byte) (now : Time) : (rxIdle b now s).rxState ≠ .complete := by
  unfold rxIdle
  split
  · exact RxState.noConfusion
  · rw [hs]; exact RxState.noConfusion

end Actions

section Step

variable {s : State} {b : Byte} {now : Time} {rest : List Event}

/-- In Idle no byte is late (R101). -/
theorem byteEvent_idle (hs : s.rxState = .idle) (b : Byte) (now : Time) : byteEvent b now s = .next (rxIdle b now s) := by
  have consumed : consumeByte b now s = .next (rxIdle b now s) := by
    rw [consumeByte, timeoutCheck_idle hs, rxAction_idle hs]
  rw [byteEvent_of_next consumed, dispatchTap_of_not_complete (rxIdle_resting hs b now)]

/-- R101: a late byte is handled in Idle, behind the abort. -/
theorem byteEvent_late (hs : s.rxState ≠ .idle) (late : rxTimeout < (now - s.tStart).toNat) (b : Byte) :
    byteEvent b now s = .next (rxIdle b now (s.framingAbort .rxTimeout)) := by
  have consumed : consumeByte b now s = .next (rxIdle b now (s.framingAbort .rxTimeout)) := by
    rw [consumeByte, timeoutCheck_late hs late, rxAction_idle rfl]
  rw [byteEvent_of_next consumed, dispatchTap_of_not_complete (rxIdle_resting rfl b now)]

theorem step_idle (hin : s.inputs = .rxByte b now :: rest) (hs : s.rxState = .idle) :
    step s = .next (rxIdle b now (s.setInputs rest)) :=
  (step_of_cons hin).trans (byteEvent_idle (s := s.setInputs rest) hs b now)

/-- R102, R27: the first sync byte. -/
theorem step_idle_sync (hin : s.inputs = .rxByte 0xAA#8 now :: rest) (hs : s.rxState = .idle) :
    step s = .next { s with
      inputs := rest, rxState := .start, tStart := now, rxIndex := 0#7, frm := Frame.cleared } :=
  step_idle hin hs

end Step

/-- Settles O6: the step is the Idle action. -/
theorem idleStartsAFrameAtTheSyncByteOnly : Obligations.IdleStartsAFrameAtTheSyncByteOnly := by
  intro s b now rest hin hs
  constructor
  · intro other
    rw [step_idle hin hs, rxIdle_other other]
    rfl
  · rintro rfl
    exact ⟨_, step_idle_sync hin hs, rfl, rfl, rfl, rfl, Memory.read_nil⟩

/-- Settles O7: the step is the Start action. -/
theorem startTakesTheSecondSyncByteOrAborts : Obligations.StartTakesTheSecondSyncByteOrAborts := by
  intro s b now rest hin hs ht
  have action := rxAction_start (s := s.setInputs rest) hs b now
  constructor
  · rintro rfl
    rw [rxStart_sync] at action
    exact step_of_resting_rxAction hin ht action RxState.noConfusion
  · intro other
    rw [rxStart_other other] at action
    exact step_of_resting_rxAction hin ht action RxState.noConfusion

/-- Settles O8: the low byte completes nothing. -/
theorem lengthLowByteAssigns : Obligations.LengthLowByteAssigns := by
  intro s b now rest hin hs ht hp
  have action := rxAction_length_low (s := s.setInputs rest) hs hp b now
  exact step_of_resting_rxAction hin ht action (by simp [hs])

/-- Settles O9: an accepted raw length is at least 5, so the subtraction does not wrap. -/
theorem acceptedLengthIsRawMinusFive : Obligations.AcceptedLengthIsRawMinusFive := by
  rintro s b now rest _ hin hs ht hp rfl low high
  have action := rxAction_length_high (s := s.setInputs rest) hs hp b now
  rw [rxLengthHigh_ok (s := s.setInputs rest) low high] at action
  refine ⟨payloadLength (pairHigh s.frm.length b), ?_, step_of_resting_rxAction hin ht action RxState.noConfusion⟩
  exact (congrArg (· + 5) (payloadLength_toNat low)).trans (Nat.sub_add_cancel low)

/-- Settles O10: the first test of the high byte aborts, with the raw length kept. -/
theorem lengthBelowFiveAborts : Obligations.LengthBelowFiveAborts := by
  rintro s b now rest _ hin hs ht hp rfl under
  have action := rxAction_length_high (s := s.setInputs rest) hs hp b now
  rw [rxLengthHigh_under (s := s.setInputs rest) under] at action
  exact step_of_resting_rxAction hin ht action RxState.noConfusion

/-- Settles O11: the second test of the high byte aborts, with the raw length kept. -/
theorem lengthOverCapacityAborts : Obligations.LengthOverCapacityAborts := by
  rintro s b now rest _ hin hs ht hp rfl tooLong
  have action := rxAction_length_high (s := s.setInputs rest) hs hp b now
  rw [rxLengthHigh_over (s := s.setInputs rest) tooLong] at action
  exact step_of_resting_rxAction hin ht action RxState.noConfusion

/-- Settles O16: behind the abort the byte is Idle's. -/
theorem lateByteAbortsAndIsHandledInIdle : Obligations.LateByteAbortsAndIsHandledInIdle := by
  intro s b now rest hin hs late
  refine ((step_of_cons hin).trans (byteEvent_late (s := s.setInputs rest) hs late b)).trans ?_
  split
  case isTrue sync =>
    subst sync
    rfl
  case isFalse other =>
    rw [rxIdle_other other]
    rfl

end Sys2Proof.Machine
end

section
/-! The transition table (spec/40_frame_receiver.md R115), and what a byte event can do outside the receiver (R116). -/

namespace Sys2Proof.Machine

/-! ### The state actions against the table -/

section Table

variable {s u : State} {b : Byte} {now : Time}

theorem nextRx_ne_complete (s : State) (b : Byte) (st : RxState) : Spec.nextRx s b st ≠ .complete := by
  cases st <;> grind [Spec.nextRx]

theorem rxIdle_rxState (hs : s.rxState = .idle) : (rxIdle b now s).rxState = Spec.nextRx s b .idle := by
  by_cases sync : b = 0xAA#8
  · simp [rxIdle, Spec.nextRx, sync]
  · simp [rxIdle, Spec.nextRx, sync, hs]

theorem rxStart_rxState : (rxStart b s).rxState = Spec.nextRx s b .start := by
  by_cases sync : b = 0xBB#8 <;> simp [rxStart, Spec.nextRx, sync]

theorem nextRx_length_high (hp : s.pairHi = true) (b : Byte) :
    Spec.nextRx s b .length =
      if 5 ≤ (pairHigh s.frm.length b).toNat ∧ (pairHigh s.frm.length b).toNat ≤ 69 then .address else .idle :=
  if_pos hp

theorem rxLengthHigh_rxState (hp : s.pairHi = true) : (rxLengthHigh b s).rxState = Spec.nextRx s b .length := by
  rw [nextRx_length_high hp]
  rcases Nat.lt_or_ge (pairHigh s.frm.length b).toNat 5 with under | atLeast
  · rw [rxLengthHigh_under under, if_neg (by omega)]; rfl
  rcases Nat.lt_or_ge 69 (pairHigh s.frm.length b).toNat with tooLong | atMost
  · rw [rxLengthHigh_over (by omega), if_neg (by omega)]; rfl
  · rw [rxLengthHigh_ok atLeast atMost, if_pos ⟨atLeast, atMost⟩]

theorem rxAddress_rxState (hs : s.rxState = .address) : (rxAddress b s).rxState = Spec.nextRx s b .address := by
  cases hp : s.pairHi
  · simp [rxAddress_low hp, Spec.nextRx, hp, hs]
  · simp [rxAddress_high hp, Spec.nextRx, hp]

theorem rxFunctionCode_rxState (hs : s.rxState = .functionCode) :
    (rxFunctionCode b s).rxState = Spec.nextRx s b .functionCode := by
  cases hp : s.pairHi
  · simp [rxFunctionCode_low hp, Spec.nextRx, hp, hs]
  · simp [rxFunctionCode_high hp, Spec.nextRx, hp]

theorem rxData_rxState (hs : s.rxState = .data) (h : rxData b s = .next u) : u.rxState = Spec.nextRx s b .data := by
  obtain ⟨room, rfl⟩ := rxData_next h
  simp only [countPayloadByte_eq, State.setFrm_rxIndex, State.setFrm_frm, State.setFrm_rxState, rxIndex_succ room, hs]
  rfl

/-- An action takes the receiver to the table's next state, or completes a frame, which changes nothing else. -/
theorem rxAction_cases (h : rxAction b now s = .next u) :
    u.rxState = Spec.nextRx s b s.rxState ∨
      ((s.rxState = .checksumSkip ∨ s.rxState = .complete) ∧ u = s.setRxState .complete) := by
  cases hs : s.rxState with
  | idle => rw [rxAction_idle hs] at h; cases h; exact .inl (rxIdle_rxState hs)
  | start => rw [rxAction_start hs] at h; cases h; exact .inl rxStart_rxState
  | length =>
    cases hp : s.pairHi with
    | false =>
      rw [rxAction_length_low hs hp] at h
      cases h
      exact .inl (by simp [rxLengthLow, Spec.nextRx, hs, hp])
    | true => rw [rxAction_length_high hs hp] at h; cases h; exact .inl (rxLengthHigh_rxState hp)
  | address => rw [rxAction_address hs] at h; cases h; exact .inl (rxAddress_rxState hs)
  | functionCode => rw [rxAction_functionCode hs] at h; cases h; exact .inl (rxFunctionCode_rxState hs)
  | data => rw [rxAction_data hs] at h; exact .inl (rxData_rxState hs h)
  | checksumSkip => rw [rxAction_checksumSkip hs] at h; cases h; exact .inr ⟨.inl rfl, rfl⟩
  | complete =>
    simp only [rxAction, hs] at h
    cases h
    exact .inr ⟨.inr rfl, by rw [← hs]; rfl⟩

/-! ### The whole byte event -/

/-- A byte that is not late passes the timeout check (R101). -/
theorem timeoutCheck_of_not_late (h : ¬ Spec.late s now) : s.timeoutCheck now = s :=
  if_neg fun timedOut => h ((timedOut_eq now s).1 timedOut)

/-- R114: a byte in time follows the table, from every state; a completed frame ends in Idle. -/
theorem byteEvent_inTime_rxState {t : State} (inTime : ¬ Spec.late s now) (h : byteEvent b now s = .next t) :
    t.rxState = Spec.nextRx s b s.rxState := by
  obtain ⟨u, hu, outcome⟩ := byteEvent_cases h
  rw [consumeByte, timeoutCheck_of_not_late inTime] at hu
  rcases rxAction_cases hu with table | ⟨from', rfl⟩
  · rcases outcome with ⟨-, rfl⟩ | ⟨complete, -⟩
    · exact table
    · exact absurd (table.symm.trans complete) (nextRx_ne_complete s b _)
  · rcases outcome with ⟨resting, -⟩ | ⟨-, v, -, -, rfl⟩
    · exact absurd rfl resting
    · rcases from' with hs | hs <;> rw [hs] <;> rfl

/-- R116 (b), (c), (e): a byte event changes nothing outside the receiver, or it is a checksum byte in time, which runs the
command in the frame registers. -/
theorem byteEvent_outside {t : State} (h : byteEvent b now s = .next t) :
    SameOutside s t ∨
      ((s.rxState = .checksumSkip ∨ s.rxState = .complete) ∧ (now - s.tStart).toNat ≤ 2000 ∧
        ∃ v, exec (decodeFrame s.cfg s.frm) (s.setRxState .complete) = .next v ∧ t = v.setRxState .idle) := by
  obtain ⟨u, hu, ⟨-, rfl⟩ | ⟨complete, v, executed, -, rfl⟩⟩ := byteEvent_cases h
  · exact .inl (consumeByte_sameOutside hu)
  rcases rxAction_cases hu with table | ⟨completing, rfl⟩
  · exact absurd (table.symm.trans complete) (nextRx_ne_complete _ b _)
  by_cases late : Spec.late s now
  · rw [timeoutCheck_late late.1 late.2] at completing
    rcases completing with hs | hs <;> cases hs
  rw [timeoutCheck_of_not_late late] at completing executed
  have active : s.rxState ≠ .idle := by rcases completing with hs | hs <;> rw [hs] <;> exact RxState.noConfusion
  exact .inr ⟨completing, Nat.not_lt.1 fun above => late ⟨active, above⟩, v, executed, rfl⟩

end Table

/-- Settles O17: a late byte is handled in Idle, any other by the present state. -/
theorem byteEventsFollowTheTransitionTable : Obligations.ByteEventsFollowTheTransitionTable := by
  intro s t b now rest hin hstep
  have event : byteEvent b now (s.setInputs rest) = .next t := (step_of_cons hin).symm.trans hstep
  constructor
  · intro late
    obtain rfl := Host.Outcome.next.inj ((byteEvent_late (s := s.setInputs rest) late.1 late.2 b).symm.trans event)
    exact rxIdle_rxState rfl
  · intro inTime
    exact byteEvent_inTime_rxState (s := s.setInputs rest) inTime event

/-- Settles O18: the one way out of the receiver is the checksum byte. -/
theorem onlyTheChecksumByteInTimeTouchesRecordOrOutputs : Obligations.OnlyTheChecksumByteInTimeTouchesRecordOrOutputs := by
  intro s t b now rest hin hstep changed
  have event : byteEvent b now (s.setInputs rest) = .next t := (step_of_cons hin).symm.trans hstep
  rcases byteEvent_outside event with ⟨-, record, -, outputs⟩ | ⟨completing, inTime, -⟩
  · exact (changed.elim (· record) (· outputs)).elim
  · exact ⟨completing, inTime⟩

end Sys2Proof.Machine
end

section
/-! What a command emits and what it leaves (spec/41_command_dispatch.md R131, R140, R142, R145), and with it what one step
emits and never changes. -/

namespace Sys2Proof.Machine

/-! ### The commands one by one -/

/-- Settles O27, by the closed forms of the response and of the image. -/
theorem readDataAnswersTheRecordImage : Obligations.ReadDataAnswersTheRecordImage := exec_readData_eq

/-- Settles O28: the meaning of UNKNOWN is the event. -/
theorem unknownCodeOnlyEmitsItsEvent : Obligations.UnknownCodeOnlyEmitsItsEvent := by
  intro a fc s
  rfl

/-- Settles O34: the umbrella command is the page its number selects, taken under the selector's tests. -/
theorem writeDataIsThePageItsNumberSelects : Obligations.WriteDataIsThePageItsNumberSelects := by
  intro a page d1 d2 d3 d4 s
  obtain ⟨t, answered, -⟩ := exec_answers (.writeData a page d1 d2 d3 d4) s
  refine ⟨⟨t, answered⟩, ?_⟩
  simp only [execWriteData_selects, selectPage, apply_ite (exec · s)]

/-! ### What a command emits -/

/-- The commands that write page 9 (R170). -/
def WritesPage9 : Instr → Prop
  | .writeP9 _ _ _ _ _ => True
  | .writeData _ page _ _ _ _ => page = 9#8
  | _ => False

/-- What a command can emit under a configuration, ending with the record `r`: nothing, the unknown code, a response under
its own address and code, or (page 9 only) a save of `r` before that response. -/
inductive Emits (i : Instr) (cfg : Config) (r : Record) : List Output → Prop
  | silent : Emits i cfg r []
  | unknown (fc : Half) : Emits i cfg r [.unknownCmd fc]
  | answer (p : List Byte) : Emits i cfg r [.response (build i.address (i.functionCode cfg) p)]
  | saved (page9 : WritesPage9 i) (p : List Byte) :
    Emits i cfg r [.save cfg.storeOffset r, .response (build i.address (i.functionCode cfg) p)]

section Emitted

variable {i : Instr} {cfg : Config} {r : Record} {new : List Output}

theorem Emits.counts (h : Emits i cfg r new) :
    new.length ≤ 2 ∧ (new.filter Spec.isResponse).length ≤ 1 ∧ (new.filter Spec.isSave).length ≤ 1 := by
  cases h <;> simp [List.filter, Spec.isResponse, Spec.isSave]

theorem Emits.of_response_mem (h : Emits i cfg r new) {bytes : List Byte} (mem : .response bytes ∈ new) :
    ∃ p, bytes = build i.address (i.functionCode cfg) p := by
  cases h with
  | silent | unknown => simp at mem
  | answer p | saved _ p => exact ⟨p, by simpa using mem⟩

theorem Emits.of_save_mem (h : Emits i cfg r new) {o : Nat} {q : Record} (mem : .save o q ∈ new) :
    o = cfg.storeOffset ∧ q = r ∧ WritesPage9 i ∧ ∃ bytes, new = [.save o q, .response bytes] := by
  cases h with
  | silent | unknown | answer => simp at mem
  | saved page9 p =>
    obtain ⟨rfl, rfl⟩ : o = cfg.storeOffset ∧ q = r := by simpa using mem
    exact ⟨rfl, rfl, page9, _, rfl⟩

end Emitted

/-- A command that writes no page keeps the record. -/
theorem exec_noPage_record {i : Instr} {s t : State} (noPage : Spec.NoPage i) (h : exec i s = .next t) :
    t.record = s.record := by
  cases i with
  | writeData | writeP6 | writeP7 | writeP8 | writeP9 => exact noPage.elim
  | _ => cases h; rfl

theorem writePage9_respond_outputs (s : State) (d1 d2 d3 d4 : Byte) (a fc : Half) (p : List Byte) :
    ((s.writePage9 d1 d2 d3 d4).respond a fc p).outputs =
      s.outputs ++ [.save s.cfg.storeOffset (s.writePage9 d1 d2 d3 d4).record, .response (build a fc p)] :=
  List.append_assoc s.outputs [_] [_]

/-- Only page 9 saves (R175). -/
theorem writePage_outputs {page : Byte} (h : page ≠ 9#8) (s : State) (d1 d2 d3 d4 : Byte) :
    (s.writePage page d1 d2 d3 d4).outputs = s.outputs := by
  rw [State.writePage, if_neg (c := page = pageLast) h]
  split_ifs <;> rfl

theorem exec_emits {i : Instr} {s t : State} (h : exec i s = .next t) :
    ∃ new, t.outputs = s.outputs ++ new ∧ Emits i s.cfg t.record new := by
  cases i with
  | setAntenna => cases h; exact ⟨[], (List.append_nil _).symm, .silent⟩
  | unknown a fc => cases h; exact ⟨_, rfl, .unknown fc⟩
  | writeP9 a d1 d2 d3 d4 =>
    cases h
    exact ⟨_, writePage9_respond_outputs .., .saved (i := .writeP9 a d1 d2 d3 d4) trivial []⟩
  | writeData a page d1 d2 d3 d4 =>
    cases h
    by_cases page9 : page = 9#8
    · subst page9
      exact ⟨_, writePage9_respond_outputs .., .saved (i := .writeData a 9#8 d1 d2 d3 d4) rfl []⟩
    · exact ⟨_, congrArg (· ++ _) (writePage_outputs page9 s d1 d2 d3 d4),
        .answer (i := .writeData a page d1 d2 d3 d4) []⟩
  | _ => cases h; exact ⟨_, rfl, .answer _⟩

/-- Settles O36: a command's effect is on the record and the outputs only. -/
theorem commandsKeepReceiverBufferAndUnlessPagesRecord : Obligations.CommandsKeepReceiverBufferAndUnlessPagesRecord := by
  intro i s t h
  obtain ⟨_, answered, record, new, id, rfl⟩ := exec_answers i s
  obtain rfl := Host.Outcome.next.inj (answered.symm.trans h)
  exact ⟨⟨rfl, rfl, rfl, rfl, rfl, rfl, rfl, rfl, fun _ => rfl⟩, id, ⟨new, rfl⟩, fun noPage => exec_noPage_record noPage h⟩

/-! ### What a byte event emits -/

/-- A frame whose command writes page 9 has the write code and that page byte (R82, R170). -/
theorem decodeFrame_writesPage9 {cfg : Config} {f : Frame} (h : WritesPage9 (decodeFrame cfg f)) :
    f.functionCode = cfg.fcWrite ∧ f.payload.read 0 = 9#8 := by
  revert h
  unfold decodeFrame
  apply decodeCommand_cases (P := fun i => WritesPage9 i → f.functionCode = cfg.fcWrite ∧ f.payload.read 0 = 9#8)
  case noPage => exact fun code _ page => ⟨code, page⟩
  case page =>
    intro code _
    apply selectPage_cases (P := fun i => WritesPage9 i → f.functionCode = cfg.fcWrite ∧ f.payload.read 0 = 9#8)
    case p9 => exact fun page _ => ⟨code, page⟩
    all_goals exact fun _ none => none.elim
  all_goals exact fun _ none => none.elim

theorem decodeFrame_carries (cfg : Config) (f : Frame) :
    (decodeFrame cfg f).address = f.address ∧ (decodeFrame cfg f).functionCode cfg = f.functionCode :=
  decodeCommand_carries cfg f.address f.functionCode f.length.toNat f.payload.read

/-- A byte event emits nothing, or what the command in the frame registers can emit. -/
theorem byteEvent_emits {b : Byte} {now : Time} {s t : State} (h : byteEvent b now s = .next t) :
    ∃ new, t.outputs = s.outputs ++ new ∧ Emits (decodeFrame s.cfg s.frm) s.cfg t.record new := by
  rcases byteEvent_outside h with ⟨-, -, -, outputs⟩ | ⟨-, -, v, executed, rfl⟩
  · exact ⟨[], outputs.trans (List.append_nil _).symm, .silent⟩
  · obtain ⟨new, outputs, emits⟩ := exec_emits executed
    exact ⟨new, outputs, emits⟩

/-- Settles O22: a response is built from the decoded command's address and code, which are the frame's. -/
theorem responseEchoesAddressAndFunctionCode : Obligations.ResponseEchoesAddressAndFunctionCode := by
  intro s t b now rest new bytes hin hstep outputs response
  obtain ⟨new', outputs', emits⟩ := byteEvent_emits ((step_of_cons hin).symm.trans hstep)
  obtain rfl := List.append_cancel_left (outputs'.symm.trans outputs)
  obtain ⟨address, code⟩ := decodeFrame_carries (s.setInputs rest).cfg (s.setInputs rest).frm
  obtain ⟨p, rfl⟩ := emits.of_response_mem response
  rw [address, code]
  exact ⟨p, build_eq_responseFrame _ _ p⟩

/-- Settles O38: a byte event emits what the command can, a host read hands out one value, and no other event emits. -/
theorem oneStepEmitsAtMostOneResponseAndOneSave : Obligations.OneStepEmitsAtMostOneResponseAndOneSave := by
  intro s t h
  obtain ⟨-, rfl⟩ | ⟨b, now, rest, -, hbyte⟩ | ⟨w, rest, -, rfl⟩ | ⟨f, rest, -, rfl⟩ | ⟨r, rest, -, rfl⟩ | ⟨rest, -, rfl⟩ :=
    step_cases h
  · exact ⟨[], by simp⟩
  · obtain ⟨new, outputs, emits⟩ := byteEvent_emits hbyte
    obtain ⟨length, responses, saves⟩ := emits.counts
    refine ⟨new, outputs, length, responses, saves, fun o r save => ?_⟩
    obtain ⟨offset, record, page9, behind⟩ := emits.of_save_mem save
    obtain ⟨code, page⟩ := decodeFrame_writesPage9 page9
    exact ⟨offset, record, code, page, behind⟩
  · exact ⟨[], by simp [State.hostWrite]⟩
  · exact ⟨[.hostData f (s.record.hostRead f)], rfl, by simp [List.filter, Spec.isResponse, Spec.isSave]⟩
  · exact ⟨[], by simp [State.hostLoad]⟩
  · exact ⟨[], by simp [State.resetEngine]⟩

/-- Settles O39: no event writes the configuration, and each keeps the id or, at reset, sets it to SLOT_ID. -/
theorem configurationAndIdNeverChange : Obligations.ConfigurationAndIdNeverChange := by
  intro s t h
  obtain ⟨-, rfl⟩ | ⟨b, now, rest, -, hbyte⟩ | ⟨w, rest, -, rfl⟩ | ⟨f, rest, -, rfl⟩ | ⟨r, rest, -, rfl⟩ | ⟨rest, -, rfl⟩ :=
    step_cases h
  · exact ⟨rfl, id⟩
  · rcases byteEvent_outside hbyte with ⟨cfg, record, -⟩ | ⟨-, -, v, executed, rfl⟩
    · exact ⟨cfg, fun id => record ▸ id⟩
    · obtain ⟨⟨cfg, -⟩, sameId, -⟩ := commandsKeepReceiverBufferAndUnlessPagesRecord _ _ _ executed
      exact ⟨cfg, fun id => sameId.trans id⟩
  · exact ⟨rfl, fun id => (hostWrite_id s.record w).trans id⟩
  · exact ⟨rfl, id⟩
  · exact ⟨rfl, id⟩
  · exact ⟨rfl, fun _ => rfl⟩

end Sys2Proof.Machine
end

section
/-! Reset and the host's accesses (spec/10_state.md R38, R44, R45, spec/70_reset_and_hazards.md R230). -/

namespace Sys2Proof.Machine

/-! ### Reset -/

/-- Settles O1, field by field. -/
theorem resetGivesIdleReceiverAndFirmwareDefaults : Obligations.ResetGivesIdleReceiverAndFirmwareDefaults := by
  intro cfg
  simp [State.resetWith, Record.defaults]

theorem resetWith_sound (cfg : Config) : Inv (State.resetWith cfg) := resetEngine_sound (State.resetWith cfg)

/-- Settles O2: a reset state is what a reset event leaves. -/
theorem resetSatisfiesInvariant : Obligations.ResetSatisfiesInvariant := ⟨resetWith_sound Config.example0, resetWith_sound⟩

/-- Settles O58: the reset event is the engine's reset, which keeps the events to come, the outputs and the ghost. -/
theorem resetEventRestoresConstruction : Obligations.ResetEventRestoresConstruction := by
  intro s rest hin
  exact step_of_cons hin

/-! ### The host -/

/-- A host write as a host reads it back, field by field (R44). -/
theorem fieldValue_hostWrite (r : Record) (w : HostWrite) (f : RecordField) :
    Spec.fieldValue (r.hostWrite w) f = if f = Spec.fieldOf w then Spec.valueOf w else Spec.fieldValue r f := by
  cases w <;> cases f <;> rfl

/-- The extension to 20 bits keeps the value. -/
theorem hostRead_toNat (r : Record) (f : RecordField) : (r.hostRead f).toNat = Spec.fieldValue r f := by
  cases f
  case initialLength | usedLength => rfl
  all_goals exact BitVec.toNat_setWidth_of_le (by decide)

/-- Settles O55: the step is the host's write. -/
theorem hostWriteSetsOneField : Obligations.HostWriteSetsOneField := by
  intro s w rest hin
  exact ⟨_, step_of_cons hin, rfl, (fieldValue_hostWrite s.record w _).trans (if_pos rfl),
    fun f other => (fieldValue_hostWrite s.record w f).trans (if_neg other)⟩

/-- Settles O56: the step is the host's read. -/
theorem hostReadHandsOutTheField : Obligations.HostReadHandsOutTheField := by
  intro s f rest hin
  exact ⟨s.record.hostRead f, hostRead_toNat s.record f, step_of_cons hin⟩

/-- Settles O57: the step is the host's load. -/
theorem hostLoadReplacesAllButTheId : Obligations.HostLoadReplacesAllButTheId := by
  intro s r rest hin
  exact step_of_cons hin

end Sys2Proof.Machine
end

section
/-! The illegal frames (spec/30_encoding.md R83) and sample frames of spec/95_test_vectors.md. -/

namespace Sys2Proof

theorem decodeLength_underflow {l h : Byte} (small : l.toNat + 256 * h.toNat < 5) (cfg : Config) (t : List Byte) :
    decodeLength cfg (l :: h :: t) = .error .lengthUnderflow := by
  rw [← Machine.toNat_pairLE] at small
  exact if_pos small

theorem decodeLength_overCapacity {l h : Byte} (large : 69 < l.toNat + 256 * h.toNat) (cfg : Config) (t : List Byte) :
    decodeLength cfg (l :: h :: t) = .error .lengthOverCapacity := by
  rw [← Machine.toNat_pairLE] at large
  have atLeast : ¬ (pairLE l h).toNat < 5 := by omega
  have above : (pairLE l h).toNat - 5 > 64 := by omega
  exact (if_neg atLeast).trans (if_pos above)

/-- Settles O52: each check of the decoder by name. -/
theorem illegalFramesAreRejectedByName : Obligations.IllegalFramesAreRejectedByName := by
  intro cfg b0 b1 l h t
  exact ⟨fun first => if_neg first, fun second => if_neg second, fun small => decodeLength_underflow small cfg t,
    fun large => decodeLength_overCapacity large cfg t⟩

/-- Settles O54: five closed frames under E0. -/
theorem sampleFramesDecode : Obligations.SampleFramesDecode := by
  unfold Obligations.SampleFramesDecode
  decide

end Sys2Proof
end

section
/-! What the receiver's registers hold in Idle is never read (spec/10_state.md R28, R39, decision D8): two states whose
receivers agree on what later actions read take the same steps, and in Idle there is nothing to agree on. -/

namespace Sys2Proof.Machine

/-- Two receivers that behave alike: the same state; outside Idle the same `t_start`, `rx_index` and frame registers (R27 sets
them on leaving Idle), and from Length on the same `pair_hi` (R103 sets it on leaving Start). -/
structure SameSequencing (s t : State) : Prop where
  rxState : t.rxState = s.rxState
  registers : s.rxState ≠ .idle → t.tStart = s.tStart ∧ t.rxIndex = s.rxIndex ∧ t.frm = s.frm
  pairHi : s.rxState ≠ .idle → s.rxState ≠ .start → t.pairHi = s.pairHi

section Receiver

variable {s t u : State} {b : Byte} {now : Time}

theorem SameSequencing.of_idle (hs : s.rxState = .idle) (ht : t.rxState = .idle) : SameSequencing s t :=
  ⟨ht.trans hs.symm, fun active => absurd hs active, fun active => absurd hs active⟩

/-- Beyond Start all five registers agree. -/
theorem SameSequencing.all (h : SameSequencing s t) {st : RxState} (hs : s.rxState = st) (idle : st ≠ .idle)
    (start : st ≠ .start) :
    t.rxState = st ∧ t.tStart = s.tStart ∧ t.rxIndex = s.rxIndex ∧ t.frm = s.frm ∧ t.pairHi = s.pairHi := by
  subst hs
  obtain ⟨tStart, index, frm⟩ := h.registers idle
  exact ⟨h.rxState, tStart, index, frm, h.pairHi idle start⟩

theorem SameSequencing.timeoutCheck (h : SameSequencing s t) (now : Time) :
    SameSequencing (s.timeoutCheck now) (t.timeoutCheck now) := by
  by_cases idle : s.rxState = .idle
  · rwa [timeoutCheck_idle idle, timeoutCheck_idle (h.rxState.trans idle)]
  obtain ⟨tStart, -⟩ := h.registers idle
  rcases Nat.lt_or_ge rxTimeout (now - s.tStart).toNat with late | inTime
  · rw [timeoutCheck_late idle late, timeoutCheck_late (h.rxState ▸ idle) (tStart ▸ late)]
    exact .of_idle rfl rfl
  · rwa [timeoutCheck_inTime inTime, timeoutCheck_inTime (tStart ▸ inTime)]

/-- A change of the record, the events to come or the outputs is no change of the receiver. -/
theorem SameSequencing.outside (h : SameSequencing s t) (r : Record) (events : List Event) (out : List Output) :
    SameSequencing s { t with record := r, inputs := events, outputs := out } := ⟨h.rxState, h.registers, h.pairHi⟩

/-! ### One lemma per state action -/

theorem SameSequencing.rxIdle (h : SameSequencing s t) : SameSequencing (rxIdle b now s) (rxIdle b now t) := by
  unfold Machine.rxIdle
  split
  · exact ⟨rfl, fun _ => ⟨rfl, rfl, rfl⟩, fun _ start => absurd rfl start⟩
  · exact h

theorem SameSequencing.rxStart (h : SameSequencing s t) (hs : s.rxState = .start) :
    SameSequencing (rxStart b s) (rxStart b t) := by
  unfold Machine.rxStart
  split
  · exact ⟨rfl, fun _ => h.registers (hs ▸ RxState.noConfusion), fun _ _ => rfl⟩
  · exact .of_idle rfl rfl

theorem SameSequencing.rxLengthLow (h : SameSequencing s t) (hs : s.rxState = .length) :
    SameSequencing (rxLengthLow b s) (rxLengthLow b t) := by
  obtain ⟨ht, tStart, index, frm, -⟩ := h.all hs RxState.noConfusion RxState.noConfusion
  rw [rxLengthLow_eq, rxLengthLow_eq, frm]
  exact ⟨h.rxState, fun _ => ⟨tStart, index, rfl⟩, fun _ _ => rfl⟩

theorem SameSequencing.rxLengthHigh (h : SameSequencing s t) (hs : s.rxState = .length) :
    SameSequencing (rxLengthHigh b s) (rxLengthHigh b t) := by
  obtain ⟨ht, tStart, index, frm, -⟩ := h.all hs RxState.noConfusion RxState.noConfusion
  simp only [Machine.rxLengthHigh, frm]
  split_ifs
  · exact .of_idle rfl rfl
  · exact .of_idle rfl rfl
  · exact ⟨rfl, fun _ => ⟨tStart, index, by simp [frm]⟩, fun _ _ => rfl⟩

theorem SameSequencing.rxAddress (h : SameSequencing s t) (hs : s.rxState = .address) :
    SameSequencing (rxAddress b s) (rxAddress b t) := by
  obtain ⟨ht, tStart, index, frm, pair⟩ := h.all hs RxState.noConfusion RxState.noConfusion
  cases hp : s.pairHi
  · rw [rxAddress_low hp, rxAddress_low (pair.trans hp), frm]
    exact ⟨h.rxState, fun _ => ⟨tStart, index, rfl⟩, fun _ _ => rfl⟩
  · rw [rxAddress_high hp, rxAddress_high (pair.trans hp), frm]
    exact ⟨rfl, fun _ => ⟨tStart, index, rfl⟩, fun _ _ => rfl⟩

theorem SameSequencing.rxFunctionCode (h : SameSequencing s t) (hs : s.rxState = .functionCode) :
    SameSequencing (rxFunctionCode b s) (rxFunctionCode b t) := by
  obtain ⟨ht, tStart, index, frm, pair⟩ := h.all hs RxState.noConfusion RxState.noConfusion
  cases hp : s.pairHi
  · rw [rxFunctionCode_low hp, rxFunctionCode_low (pair.trans hp), frm]
    exact ⟨h.rxState, fun _ => ⟨tStart, index, rfl⟩, fun _ _ => rfl⟩
  · rw [rxFunctionCode_high hp, rxFunctionCode_high (pair.trans hp), frm]
    exact ⟨rfl, fun _ => ⟨tStart, rfl, rfl⟩, fun _ _ => rfl⟩

theorem SameSequencing.rxData (h : SameSequencing s t) (hs : s.rxState = .data) (hu : rxData b s = .next u) :
    ∃ v, rxData b t = .next v ∧ SameSequencing u v := by
  obtain ⟨ht, tStart, index, frm, pair⟩ := h.all hs RxState.noConfusion RxState.noConfusion
  obtain ⟨room, rfl⟩ := rxData_next hu
  refine ⟨_, rxData_of_lt (index ▸ room) b, ?_⟩
  rw [countPayloadByte_eq, countPayloadByte_eq, index, frm]
  exact ⟨by simp [index, hs, ht], fun _ => ⟨tStart, congrArg (· + 1#7) index, rfl⟩, fun _ _ => pair⟩

/-- Alike receivers answer alike, and stay so. -/
theorem SameSequencing.rxAction (h : SameSequencing s t) (hu : rxAction b now s = .next u) :
    ∃ v, rxAction b now t = .next v ∧ SameSequencing u v := by
  cases hs : s.rxState with
  | idle =>
    rw [rxAction_idle hs] at hu
    cases hu
    exact ⟨_, rxAction_idle (h.rxState.trans hs) b now, h.rxIdle⟩
  | start =>
    rw [rxAction_start hs] at hu
    cases hu
    exact ⟨_, rxAction_start (h.rxState.trans hs) b now, h.rxStart hs⟩
  | length =>
    obtain ⟨ht, -, -, -, pair⟩ := h.all hs RxState.noConfusion RxState.noConfusion
    cases hp : s.pairHi with
    | false =>
      rw [rxAction_length_low hs hp] at hu
      cases hu
      exact ⟨_, rxAction_length_low ht (pair.trans hp) b now, h.rxLengthLow hs⟩
    | true =>
      rw [rxAction_length_high hs hp] at hu
      cases hu
      exact ⟨_, rxAction_length_high ht (pair.trans hp) b now, h.rxLengthHigh hs⟩
  | address =>
    rw [rxAction_address hs] at hu
    cases hu
    exact ⟨_, rxAction_address (h.rxState.trans hs) b now, h.rxAddress hs⟩
  | functionCode =>
    rw [rxAction_functionCode hs] at hu
    cases hu
    exact ⟨_, rxAction_functionCode (h.rxState.trans hs) b now, h.rxFunctionCode hs⟩
  | data =>
    rw [rxAction_data hs] at hu
    rw [rxAction_data (h.rxState.trans hs)]
    exact h.rxData hs hu
  | checksumSkip =>
    obtain ⟨ht, tStart, index, frm, pair⟩ := h.all hs RxState.noConfusion RxState.noConfusion
    rw [rxAction_checksumSkip hs] at hu
    cases hu
    exact ⟨_, rxAction_checksumSkip ht b now, rfl, fun _ => ⟨tStart, index, frm⟩, fun _ _ => pair⟩
  | complete =>
    simp only [Machine.rxAction, hs] at hu
    cases hu
    simp only [Machine.rxAction, h.rxState.trans hs]
    exact ⟨t, rfl, h⟩

theorem SameSequencing.consumeByte (h : SameSequencing s t) (hu : consumeByte b now s = .next u) :
    ∃ v, consumeByte b now t = .next v ∧ SameSequencing u v := (h.timeoutCheck now).rxAction hu

end Receiver

/-! ### Commands read the configuration, the record and the outputs only -/

theorem exec_sameOutside {i : Instr} {s t u v : State} (h : SameOutside s t) (hu : exec i s = .next u)
    (hv : exec i t = .next v) : SameOutside u v := by
  obtain ⟨cfg, record, inputs, outputs⟩ := h
  have shared : t = { t with cfg := s.cfg, record := s.record, outputs := s.outputs } := by
    rw [← cfg, ← record, ← outputs]
  rw [shared] at hv
  cases i with
  | writeData a page d1 d2 d3 d4 =>
    rw [execWriteData_selects] at hu hv
    unfold selectPage at hu hv
    split_ifs at hu hv <;> cases hu <;> cases hv <;> exact ⟨rfl, rfl, inputs, rfl⟩
  | _ => cases hu; cases hv; exact ⟨rfl, rfl, inputs, rfl⟩

/-! ### Two runs -/

theorem SameOutside.symm {s t : State} (h : SameOutside s t) : SameOutside t s := by
  obtain ⟨cfg, record, inputs, outputs⟩ := h
  exact ⟨cfg.symm, record.symm, inputs.symm, outputs.symm⟩

/-- Two states that no run tells apart: the same outside the receiver, and receivers that behave like that of one sound
state. -/
def Indistinct (s t : State) : Prop :=
  SameOutside s t ∧ ∃ m, Inv m ∧ SameSequencing m s ∧ SameSequencing m t

section Run

variable {s t : State}

theorem Indistinct.of_idle (h : SameOutside s t) (hs : s.rxState = .idle) (ht : t.rxState = .idle) : Indistinct s t :=
  ⟨h, State.reset, resetSatisfiesInvariant.1, .of_idle rfl hs, .of_idle rfl ht⟩

theorem Indistinct.rxState_eq (h : Indistinct s t) : t.rxState = s.rxState := by
  obtain ⟨-, m, -, ms, mt⟩ := h
  exact mt.rxState.trans ms.rxState.symm

/-- A completed frame is dispatched on the same frame registers. -/
theorem dispatchTap_indistinct (h : SameOutside s t) (hs : s.rxState = .complete) (ht : t.rxState = .complete)
    (frm : t.frm = s.frm) : ∃ s' t', dispatchTap s = .next s' ∧ dispatchTap t = .next t' ∧ Indistinct s' t' := by
  obtain ⟨v, executed, dispatched, -⟩ := dispatchTap_of_complete hs
  obtain ⟨w, executed', dispatched', -⟩ := dispatchTap_of_complete ht
  rw [frm, h.1] at executed'
  obtain ⟨cfg, record, inputs, outputs⟩ := exec_sameOutside h executed executed'
  exact ⟨_, _, dispatched, dispatched', .of_idle ⟨cfg, record, inputs, outputs⟩ rfl rfl⟩

theorem byteEvent_indistinct (h : Indistinct s t) (b : Byte) (now : Time) :
    ∃ s' t', byteEvent b now s = .next s' ∧ byteEvent b now t = .next t' ∧ Indistinct s' t' := by
  obtain ⟨outside, m, sound, ms, mt⟩ := h
  obtain ⟨m', hm⟩ := rxAction_answers (sound.timeoutCheck now) b now
  obtain ⟨s', hs, ms'⟩ := ms.consumeByte hm
  obtain ⟨t', ht, mt'⟩ := mt.consumeByte hm
  have outside' : SameOutside s' t' :=
    (consumeByte_sameOutside hs).symm.trans (outside.trans (consumeByte_sameOutside ht))
  rw [byteEvent_of_next hs, byteEvent_of_next ht]
  by_cases complete : m'.rxState = .complete
  · obtain ⟨hs', -, -, frm, -⟩ := ms'.all complete RxState.noConfusion RxState.noConfusion
    obtain ⟨ht', -, -, frm', -⟩ := mt'.all complete RxState.noConfusion RxState.noConfusion
    exact dispatchTap_indistinct outside' hs' ht' (frm'.trans frm.symm)
  · have sound' : Inv m' := (rxAction_settles (sound.timeoutCheck now) hm).resolve_right fun h => complete h.1
    rw [dispatchTap_of_not_complete (ms'.rxState ▸ complete), dispatchTap_of_not_complete (mt'.rxState ▸ complete)]
    exact ⟨s', t', rfl, rfl, outside', m', sound', ms', mt'⟩

theorem runEvent_indistinct (h : Indistinct s t) (e : Event) :
    ∃ s' t', runEvent e s = .next s' ∧ runEvent e t = .next t' ∧ Indistinct s' t' := by
  have ⟨⟨cfg, record, inputs, outputs⟩, m, sound, ms, mt⟩ := h
  cases e with
  | rxByte b now => exact byteEvent_indistinct h b now
  | hostWrite w =>
    exact ⟨_, _, rfl, rfl, ⟨cfg, congrArg (·.hostWrite w) record, inputs, outputs⟩, m, sound,
      ms.outside .., mt.outside ..⟩
  | hostRead f =>
    refine ⟨_, _, rfl, rfl, ⟨cfg, record, inputs, ?_⟩, m, sound, ms.outside .., mt.outside ..⟩
    simp only [State.hostRead, State.emit_outputs, record, outputs]
  | hostLoad r =>
    refine ⟨_, _, rfl, rfl, ⟨cfg, ?_, inputs, outputs⟩, m, sound, ms.outside .., mt.outside ..⟩
    simp only [State.hostLoad, State.setRecord_record, record]
  | reset => exact ⟨_, _, rfl, rfl, .of_idle ⟨cfg, congrArg Record.defaults cfg, inputs, outputs⟩ rfl rfl⟩

theorem step_indistinct (h : Indistinct s t) : ∃ s' t', step s = .next s' ∧ step t = .next t' ∧ Indistinct s' t' := by
  have ⟨⟨cfg, record, inputs, outputs⟩, m, sound, ms, mt⟩ := h
  cases hin : s.inputs with
  | nil => exact ⟨s, t, step_of_nil hin, step_of_nil (inputs.trans hin), h⟩
  | cons e rest =>
    rw [step_of_cons hin, step_of_cons (inputs.trans hin)]
    exact runEvent_indistinct (s := s.setInputs rest) (t := t.setInputs rest)
      ⟨⟨cfg, record, rfl, outputs⟩, m, sound, ms.outside .., mt.outside ..⟩ e

theorem run_indistinct (n : Nat) (h : Indistinct s t) :
    ∃ s' t', Host.Core.run core n s = .next s' ∧ Host.Core.run core n t = .next t' ∧ Indistinct s' t' := by
  induction n generalizing s t with
  | zero => exact ⟨s, t, rfl, rfl, h⟩
  | succ n ih =>
    obtain ⟨s', t', hs, ht, h'⟩ := step_indistinct h
    rw [run_succ_of_step hs, run_succ_of_step ht]
    exact ih h'

end Run

/-- Settles O19: no step tells two states apart whose receivers are Idle, so no run does. -/
theorem idleRegistersAreUnobservable : Obligations.IdleRegistersAreUnobservable := by
  intro n s s' ⟨hs, hs', cfg, record, inputs, outputs⟩
  have indistinct : Indistinct s s' := .of_idle ⟨cfg.symm, record.symm, inputs.symm, outputs.symm⟩ hs hs'
  obtain ⟨t, t', ht, ht', h⟩ := run_indistinct n indistinct
  obtain ⟨-, record', -, outputs'⟩ := h.1
  exact ⟨t, t', ht, ht', outputs'.symm, record'.symm, h.rxState_eq.symm⟩

end Sys2Proof.Machine
end

section
/-! A whole frame delivered byte by byte (spec/40_frame_receiver.md R100 to R112) against the decoder of bytes
(spec/30_encoding.md R70): stage by stage, the receiver in the state that reads a part of the frame runs what the decoder's
stage for that part answers. -/

namespace Sys2Proof

/-! ### What an answer of each decoder stage says of the bytes -/

section Stages

variable {cfg : Config} {l rest : List Byte} {i : Instr}

theorem decodeBody_ok {n : Nat} (h : decodeBody cfg n l = .ok (i, rest)) :
    ∃ a0 a1 f0 f1 p c, l = a0 :: a1 :: f0 :: f1 :: (p ++ c :: rest) ∧ p.length = n ∧
      i = decodeCommand cfg (pairLE a0 a1) (pairLE f0 f1) n (fun k => p.getD k 0#8) := by
  unfold decodeBody at h
  split at h
  case h_2 => cases h
  case h_1 a0 a1 f0 f1 t =>
    split at h
    case isTrue => cases h
    case isFalse long =>
      cases h
      have inside : n < t.length := by omega
      refine ⟨a0, a1, f0, f1, t.take n, t[n], ?_, List.length_take_of_le inside.le, rfl⟩
      rw [← List.drop_eq_getElem_cons inside, List.take_append_drop]

theorem decodeLength_ok (h : decodeLength cfg l = .ok (i, rest)) :
    ∃ l0 l1 t, l = l0 :: l1 :: t ∧ 5 ≤ (pairLE l0 l1).toNat ∧ (pairLE l0 l1).toNat ≤ 69 ∧
      decodeBody cfg ((pairLE l0 l1).toNat - 5) t = .ok (i, rest) := by
  unfold decodeLength at h
  split at h
  case h_2 => cases h
  case h_1 l0 l1 t =>
    dsimp only [rxOverhead, payloadCap] at h
    split at h
    case isTrue => cases h
    case isFalse atLeast =>
      split at h
      case isTrue => cases h
      case isFalse atMost => exact ⟨l0, l1, t, rfl, by omega, by omega, h⟩

theorem decodeStart_ok (h : decodeStart cfg l = .ok (i, rest)) :
    ∃ t, l = sync1 :: t ∧ decodeLength cfg t = .ok (i, rest) := by
  cases l with
  | nil => cases h
  | cons s1 t =>
    by_cases sync : s1 = sync1
    · subst sync
      exact ⟨t, rfl, h⟩
    · rw [decodeStart, if_neg sync] at h
      cases h

theorem decode_cons_ok {s0 : Byte} (h : decode cfg (s0 :: l) = .ok (i, rest)) :
    s0 = sync0 ∧ decodeStart cfg l = .ok (i, rest) := by
  by_cases sync : s0 = sync0
  · subst sync
    exact ⟨rfl, h⟩
  · rw [decode, if_neg sync] at h
    cases h

end Stages

namespace Machine

/-! ### The payload buffer after a whole payload -/

/-- Bytes stored from an index above every listed cell read back in order, and 0 behind them. -/
theorem read_storeFrom (l : List Byte) {k : Nat} {m : Memory} (ordered : m.Pairwise fun c d => c.1 < d.1)
    (below : ∀ c ∈ m, c.1 < k) (j : Nat) :
    (storeFrom k l m).read j = if j < k then m.read j else l.getD (j - k) 0#8 := by
  induction l generalizing k m with
  | nil =>
    split
    · rfl
    · exact Memory.read_of_all_lt fun c hc => by have := below c hc; omega
  | cons b l ih =>
    rw [storeFrom, ih (Memory.write_pairwise ordered k b) (Memory.write_lt_succ below b)]
    rcases Nat.lt_trichotomy j k with before | rfl | behind
    · rw [if_pos (by omega), if_pos before, Memory.read_write_other m b before.ne]
    · rw [if_pos (Nat.lt_succ_self j), if_neg (Nat.lt_irrefl j), Memory.read_write_same ordered, Nat.sub_self]
      rfl
    · obtain ⟨d, rfl⟩ := Nat.exists_eq_add_of_lt behind
      rw [if_neg (by omega), if_neg (by omega), Nat.add_sub_add_right, Nat.add_assoc, Nat.add_sub_cancel_left]
      simp

/-- The command in the registers of a frame whose payload has been stored into the cleared buffer (R176). -/
theorem decodeFrame_storeFrom (cfg : Config) {f : Frame} (cleared : f.payload = []) (p : List Byte) :
    decodeFrame cfg { f with payload := storeFrom 0 p f.payload } =
      decodeCommand cfg f.address f.functionCode f.length.toNat (fun k => p.getD k 0#8) := by
  have reads : Memory.read (storeFrom 0 p f.payload) = fun k => p.getD k 0#8 := by
    rw [cleared]
    exact funext fun k => read_storeFrom p List.Pairwise.nil (by simp) k
  rw [decodeFrame, reads]

/-! ### Delivery -/

/-- The byte events of `ps`, each byte with its time, and the events `rest` behind them. -/
def deliveries (ps : List (Byte × Time)) (rest : List Event) : List Event :=
  (ps.map fun p => Event.rxByte p.1 p.2) ++ rest

/-- The bytes `ps` are the next events of `s`, none of them late for the frame it began at `t0`. -/
structure Incoming (t0 : Time) (ps : List (Byte × Time)) (rest : List Event) (s : State) : Prop where
  inputs : s.inputs = deliveries ps rest
  tStart : s.tStart = t0
  inTime : ∀ p ∈ ps, (p.2 - t0).toNat ≤ 2000

/-- `n` steps from `s` are the execution of `i`, with nothing outside the receiver changed before it, and the return to Idle. -/
def Runs (i : Instr) (t0 : Time) (rest : List Event) (n : Nat) (s : State) : Prop :=
  ∃ u t : State,
    u.cfg = s.cfg ∧ u.record = s.record ∧ u.outputs = s.outputs ∧ u.aborts = s.aborts ∧ u.inputs = rest ∧
    u.tStart = t0 ∧ decodeFrame u.cfg u.frm = i ∧ exec i u = .next t ∧
    Host.Core.run core n s = .next { t with rxState := .idle }

/-- R110 as a step. -/
theorem step_data {s : State} {b : Byte} {now : Time} {rest : List Event} (hin : s.inputs = .rxByte b now :: rest)
    (hs : s.rxState = .data) (ht : (now - s.tStart).toNat ≤ 2000) (room : s.rxIndex.toNat < payloadCap) :
    step s = .next { s with
      inputs := rest, rxIndex := s.rxIndex + 1#7,
      rxState := if s.rxIndex.toNat + 1 = s.frm.length.toNat then .checksumSkip else .data,
      frm := { s.frm with payload := s.frm.payload.write s.rxIndex.toNat b } } :=
  (step_of_cons hin).trans (byteEvent_data_of_lt (s := s.setInputs rest) hs ht room b)

section Delivery

variable {i : Instr} {t0 : Time} {x : Byte × Time} {ps : List (Byte × Time)} {rest : List Event} {s s' : State} {n : Nat}

theorem Incoming.head (h : Incoming t0 (x :: ps) rest s) :
    s.inputs = .rxByte x.1 x.2 :: deliveries ps rest := h.inputs

theorem Incoming.head_inTime (h : Incoming t0 (x :: ps) rest s) : (x.2 - s.tStart).toNat ≤ 2000 :=
  h.tStart ▸ h.inTime x List.mem_cons_self

theorem Incoming.tail (h : Incoming t0 (x :: ps) rest s)
    (inputs : s'.inputs = deliveries ps rest) (tStart : s'.tStart = s.tStart) :
    Incoming t0 ps rest s' :=
  ⟨inputs, tStart.trans h.tStart, fun p hp => h.inTime p (List.mem_cons_of_mem x hp)⟩

theorem Runs.of_step (hs : step s = .next s')
    (outside : s'.cfg = s.cfg ∧ s'.record = s.record ∧ s'.outputs = s.outputs ∧ s'.aborts = s.aborts)
    (h : Runs i t0 rest n s') : Runs i t0 rest (n + 1) s := by
  obtain ⟨cfg, record, outputs, aborts⟩ := outside
  obtain ⟨u, t, ucfg, urecord, uoutputs, uaborts, uinputs, utStart, decoded, executed, ran⟩ := h
  exact ⟨u, t, ucfg.trans cfg, urecord.trans record, uoutputs.trans outputs, uaborts.trans aborts, uinputs, utStart,
    decoded, executed, (run_succ_of_step hs n).trans ran⟩

/-- R111, R112: the checksum byte. -/
theorem runs_checksum (hs : s.rxState = .checksumSkip) (hx : Incoming t0 [x] rest s) :
    Runs (decodeFrame s.cfg s.frm) t0 rest 1 s := by
  obtain ⟨t, executed, stepped⟩ := aStepRunsTheDecodedInstruction s x.1 x.2 rest _ hx.head hs hx.head_inTime rfl
  exact ⟨{ s with inputs := rest, rxState := .complete }, t, rfl, rfl, rfl, rfl, rfl, hx.tStart, rfl, executed,
    run_succ_of_step stepped 0⟩

/-- R110: the payload bytes still to come, and the checksum byte. -/
theorem runs_payload {q : List (Byte × Time)} (hq : Incoming t0 (q ++ [x]) rest s)
    (hs : s.rxState = if q = [] then .checksumSkip else .data)
    (index : s.rxIndex.toNat + q.length = s.frm.length.toNat) (fits : s.frm.length.toNat ≤ 64) :
    Runs (decodeFrame s.cfg { s.frm with payload := storeFrom s.rxIndex.toNat (q.map Prod.fst) s.frm.payload }) t0 rest
      (q.length + 1) s := by
  induction q generalizing s with
  | nil => exact runs_checksum hs hq
  | cons y q ih =>
    have hy : Incoming t0 (y :: (q ++ [x])) rest s := hq
    rw [List.length_cons] at index
    have room : s.rxIndex.toNat < payloadCap := by simp only [payloadCap]; omega
    have last : s.rxIndex.toNat + 1 = s.frm.length.toNat ↔ q = [] := by
      rw [← List.length_eq_zero_iff]; omega
    have later := ih (s := { s with
      inputs := deliveries (q ++ [x]) rest, rxIndex := s.rxIndex + 1#7,
      rxState := if s.rxIndex.toNat + 1 = s.frm.length.toNat then .checksumSkip else .data,
      frm := { s.frm with payload := s.frm.payload.write s.rxIndex.toNat y.1 } })
      (hy.tail rfl rfl) (if_congr last rfl rfl) (by simp only [rxIndex_succ room]; omega) fits
    rw [rxIndex_succ room] at later
    exact later.of_step (step_data hy.head hs hy.head_inTime room) ⟨rfl, rfl, rfl, rfl⟩

/-! ### The two-byte fields -/

section Fields

variable {y : Byte × Time}

/-- R106: an accepted length field. -/
theorem Runs.of_length (hs : s.rxState = .length) (low : s.pairHi = false) (hps : Incoming t0 (x :: y :: ps) rest s)
    (atLeast : 5 ≤ (pairLE x.1 y.1).toNat) (atMost : (pairLE x.1 y.1).toNat ≤ 69)
    (later : ∀ (length : Half) (s' : State), length.toNat + 5 = (pairLE x.1 y.1).toNat →
      s' = { s with
        inputs := deliveries ps rest, pairHi := false, rxState := .address, frm := { s.frm with length := length } } →
      Incoming t0 ps rest s' → Runs i t0 rest n s') :
    Runs i t0 rest (n + 2) s := by
  have first := lengthLowByteAssigns s x.1 x.2 _ hps.head hs hps.head_inTime low
  have hy := hps.tail (s' := { s with
    inputs := deliveries (y :: ps) rest, pairHi := true, frm := { s.frm with length := x.1.setWidth 16 } }) rfl rfl
  obtain ⟨length, raw, second⟩ :=
    acceptedLengthIsRawMinusFive _ y.1 y.2 _ _ hy.head hs hy.head_inTime rfl rfl atLeast atMost
  have run := later length _ raw rfl (hy.tail rfl rfl)
  exact (run.of_step second ⟨rfl, rfl, rfl, rfl⟩).of_step first ⟨rfl, rfl, rfl, rfl⟩

/-- R107. -/
theorem Runs.of_address (hs : s.rxState = .address) (low : s.pairHi = false) (hps : Incoming t0 (x :: y :: ps) rest s)
    (later : ∀ s' : State,
      s' = { s with
        inputs := deliveries ps rest, pairHi := false, rxState := .functionCode,
        frm := { s.frm with address := pairLE x.1 y.1 } } →
      Incoming t0 ps rest s' → Runs i t0 rest n s') : Runs i t0 rest (n + 2) s := by
  have first := (addressAssemblesLowByteFirst s x.1 x.2 _ hps.head hs hps.head_inTime).1 low
  have hy := hps.tail (s' := { s with
    inputs := deliveries (y :: ps) rest, pairHi := true, frm := { s.frm with address := x.1.setWidth 16 } }) rfl rfl
  have second := (addressAssemblesLowByteFirst _ y.1 y.2 _ hy.head hs hy.head_inTime).2 rfl
  have run := later _ rfl (hy.tail rfl rfl)
  exact (run.of_step second ⟨rfl, rfl, rfl, rfl⟩).of_step first ⟨rfl, rfl, rfl, rfl⟩

/-- R108. -/
theorem Runs.of_functionCode (hs : s.rxState = .functionCode) (low : s.pairHi = false)
    (hps : Incoming t0 (x :: y :: ps) rest s)
    (later : ∀ s' : State,
      s' = { s with
        inputs := deliveries ps rest, pairHi := false, rxIndex := 0#7,
        rxState := if s.frm.length = 0#16 then .checksumSkip else .data,
        frm := { s.frm with functionCode := pairLE x.1 y.1 } } →
      Incoming t0 ps rest s' → Runs i t0 rest n s') : Runs i t0 rest (n + 2) s := by
  have first := (functionCodeAssemblesAndBranchesOnLength s x.1 x.2 _ hps.head hs hps.head_inTime).1 low
  have hy := hps.tail (s' := { s with
    inputs := deliveries (y :: ps) rest, pairHi := true, frm := { s.frm with functionCode := x.1.setWidth 16 } }) rfl rfl
  have second := (functionCodeAssemblesAndBranchesOnLength _ y.1 y.2 _ hy.head hs hy.head_inTime).2 rfl
  have run := later _ rfl (hy.tail rfl rfl)
  exact (run.of_step second ⟨rfl, rfl, rfl, rfl⟩).of_step first ⟨rfl, rfl, rfl, rfl⟩

end Fields

/-! ### The stages of the decoder, each against the receiver's state that reads the same bytes -/

/-- The address, the function code, the payload and the checksum byte. -/
theorem runs_body (hs : s.rxState = .address) (low : s.pairHi = false) (payload : s.frm.payload = [])
    (fits : s.frm.length.toNat ≤ 64) (decoded : decodeBody s.cfg s.frm.length.toNat (ps.map Prod.fst) = .ok (i, []))
    (hps : Incoming t0 ps rest s) : Runs i t0 rest ps.length s := by
  obtain ⟨a0, a1, f0, f1, p, c, bytes, length, rfl⟩ := decodeBody_ok decoded
  simp only [List.map_eq_cons_iff, List.map_eq_append_iff, List.map_eq_nil_iff] at bytes
  obtain ⟨x0, _, rfl, rfl, x1, _, rfl, rfl, x2, _, rfl, rfl, x3, _, rfl, rfl, q, _, rfl, rfl, x, _, rfl, rfl, rfl⟩ := bytes
  have size : q.length = s.frm.length.toNat := (List.length_map _).symm.trans length
  have empty : s.frm.length = 0#16 ↔ q = [] := by
    rw [← List.length_eq_zero_iff, size]; bv_omega
  have count : (x0 :: x1 :: x2 :: x3 :: (q ++ [x])).length = q.length + 1 + 2 + 2 := by simp
  rw [count]
  refine Runs.of_address hs low hps fun s1 h1 hps1 => ?_
  subst h1
  refine Runs.of_functionCode rfl rfl hps1 fun s2 h2 hps2 => ?_
  subst h2
  have run := runs_payload hps2 (if_congr empty rfl rfl) ((Nat.zero_add q.length).trans size) fits
  rw [← decodeFrame_storeFrom s.cfg (f := { s.frm with address := pairLE x0.1 x1.1, functionCode := pairLE x2.1 x3.1 })
    payload (q.map Prod.fst)]
  exact run

/-- The length field, and the body behind it. -/
theorem runs_length (hs : s.rxState = .length) (low : s.pairHi = false) (payload : s.frm.payload = [])
    (decoded : decodeLength s.cfg (ps.map Prod.fst) = .ok (i, [])) (hps : Incoming t0 ps rest s) :
    Runs i t0 rest ps.length s := by
  obtain ⟨l0, l1, t, bytes, atLeast, atMost, body⟩ := decodeLength_ok decoded
  simp only [List.map_eq_cons_iff] at bytes
  obtain ⟨x0, _, rfl, rfl, x1, ps, rfl, rfl, rfl⟩ := bytes
  refine Runs.of_length hs low hps atLeast atMost fun length s' raw h' hps' => ?_
  subst h'
  rw [← raw, Nat.add_sub_cancel] at body
  exact runs_body rfl rfl payload (by dsimp only; omega) body hps'

/-- The second sync byte, and the length field behind it. -/
theorem runs_start (hs : s.rxState = .start) (payload : s.frm.payload = [])
    (decoded : decodeStart s.cfg (ps.map Prod.fst) = .ok (i, [])) (hps : Incoming t0 ps rest s) :
    Runs i t0 rest ps.length s := by
  obtain ⟨t, bytes, length⟩ := decodeStart_ok decoded
  obtain ⟨x, ps, rfl, sync, rfl⟩ := List.map_eq_cons_iff.1 bytes
  have stepped := (startTakesTheSecondSyncByteOrAborts s x.1 x.2 _ hps.head hs hps.head_inTime).1 sync
  refine Runs.of_step stepped ⟨rfl, rfl, rfl, rfl⟩ ?_
  exact runs_length rfl rfl payload length (hps.tail rfl rfl)

end Delivery

/-- Settles O21: the first sync byte sets `t_start` and clears the frame registers, and the other stages follow. -/
theorem aDeliveredFrameRunsItsInstruction : Obligations.ADeliveredFrameRunsItsInstruction := by
  intro s i b0 t0 later rest hs hin decoded inTime
  obtain ⟨rfl, start⟩ := decode_cons_ok decoded
  have stepped := step_idle_sync hin hs
  refine Runs.of_step stepped ⟨rfl, rfl, rfl, rfl⟩ ?_
  exact runs_start rfl rfl start ⟨rfl, rfl, inTime⟩

end Machine
end Sys2Proof
end
